-- ==== Sys2Proof/Word.lean ====
section
/-!
DEFINITION. The words the spec treats as bits: 32-bit registers (R6 `REG_WIDTH`), bytes of a bus frame and the
24-bit view of a frame in wire order (R77, R80).
-/

namespace Sys2Proof

/-- A 32-bit register value (R6 `REG_WIDTH`). -/
abbrev Word := BitVec 32

/-- One byte of a bus frame (R8). -/
abbrev Byte := BitVec 8

/-- A three-byte frame as one number in wire order, byte 0 in bits 23:16 (R60). -/
abbrev Frame24 := BitVec 24

end Sys2Proof
end

