-- ==== Sys2Proof/Machine/Params.lean ====
section
/-!
DEFINITION. The fixed parameters of R6 that the block's rules compute with.
-/

namespace Sys2Proof.Machine

/-- `RAW_MAX` (R6). -/
def rawMax : Nat := 1023

/-- `MIN_SENTINEL` (R6, R130): one past the maximum raw reading; 1024, not 1023 (spec/90_conflicts.md C1). -/
def minSentinel : BitVec 11 := 1024#11

/-- `MAX_SENTINEL` (R6, R130). -/
def maxSentinel : BitVec 11 := 0#11

/-- `START_BYTE` (R6, R77). -/
def startByte : Byte := 0x01#8

/-- `PAD_BYTE` (R6, R77). -/
def padByte : Byte := 0x00#8

/-- `SRC_LO` of the sampler's rescale (R6, R155). -/
def sampleSrcLo : Int := 0

/-- `SRC_HI` of the sampler's rescale (R6, R155). -/
def sampleSrcHi : Int := 1024

/-- `DST_LO` of the sampler's rescale (R6, R155). -/
def sampleDstLo : Int := 0

/-- The least value of the source's return type i32 (R151). -/
def i32Min : Int := -2147483648

/-- The greatest value of i32 (R151). -/
def i32Max : Int := 2147483647

end Sys2Proof.Machine
end

