-- ==== Sys2Proof/Config.lean ====
section
/-!
DEFINITION. What stands outside the block and what the spec leaves open: the agents and their inputs (R14), the free
values (constants without a body), and the open and contractual parameters of R6 and R7 that no block rule reads.
-/

namespace Sys2Proof

/-- The agents of R14. Reset is an input that the platform (or the host) asserts, R230: it has a turn of its own. -/
inductive Agent where
  | host
  | block
  | bus
  | timebase
  | platform
  deriving DecidableEq, Repr, Inhabited

/-- The two host-port transactions (R12, R51, R52). The index is 8 bits wide, the value a whole register (R53). -/
inductive HostTxn where
  | read (index : BitVec 8)
  | write (index : BitVec 8) (value : Word)
  deriving DecidableEq, Repr, Inhabited

/-- What the bus agent delivers for a pending frame (R58, R108): three bytes, or FAIL. Never answering is the
bus agent never taking its turn. -/
inductive BusAnswer where
  | ok (rx0 rx1 rx2 : Byte)
  | fail
  deriving DecidableEq, Repr, Inhabited

/-- The order in which a BusChannel shifts the bits of a byte (R7 `BUS_BIT_ORDER`). -/
inductive BitOrder where
  | msbFirst
  | lsbFirst
  deriving DecidableEq, Repr, Inhabited

/-- Free value: whose turn it is once nothing is scheduled, 'any enabled agent may step next' (R14, R62; log 1). -/
opaque Config.agentTurn : Nat → Agent

/-- Free value: the bus agent's answer to a frame that selects a channel. 'The bytes are a draw' (R108; log 2). -/
opaque Config.busAnswer : Fin 8 → Nat → BusAnswer

/-- Free value: the host's next transaction, 'the program of the host' (R15; log 4). -/
opaque Config.hostTransaction : Nat → HostTxn

/-- Free value: by how many whole milliseconds the timebase advances at one of its turns (R211; log 3). -/
opaque Config.tick : Nat → Nat

/-- Open parameter `REG_BASE` (R7): where a platform maps the register port. No rule of the block reads it (log 15). -/
opaque Config.regBase : Nat

/-- Open parameter `BUS_BIT_ORDER` (R7): invisible at the byte-level bus port. No rule reads it (log 15). -/
opaque Config.busBitOrder : BitOrder

/-- `BUS_SCLK_HZ` of R6, part of the contract on the attached BusChannel (R109). The block neither sets nor checks it. -/
def Config.busSclkHz : Nat := 3600000

/-- `BUS_MODE` of R6 (R109): clock idle low, data sampled on the leading edge. Neither set nor checked by the block. -/
def Config.busMode : Nat := 0

/-- `BUS_WORD_BITS` of R6 (R109). Neither set nor checked by the block. -/
def Config.busWordBits : Nat := 8

end Sys2Proof
end

