-- ==== Sys2Proof/Syntax.lean ====
section
/-!
DEFINITION. The instructions: one constructor per row of spec/opcode_table.json (R86), and the words that carry them
on the two ports (R70).
-/

namespace Sys2Proof

/-- One constructor per row of the opcode table (R86). CHAN and VALUE are the unsigned numbers of R75 and R76; the
three bytes of ADC_RESULT are those of the inbound frame, ignored bits included (R80, R28). -/
inductive Instr where
  | nop
  | frame (ch : Nat)
  | decode
  | read (ch : Nat)
  | trackClear
  | trackPush (v : Nat)
  | peak
  | rescale
  | sample (ch : Nat)
  | reserved9
  | reservedA
  | reservedB
  | reservedC
  | reservedD
  | reservedE
  | reservedF
  | adcSeCh0
  | adcSeCh1
  | adcSeCh2
  | adcSeCh3
  | adcSeCh4
  | adcSeCh5
  | adcSeCh6
  | adcSeCh7
  | adcResult (rx0 rx1 rx2 : Byte)
  deriving DecidableEq, Repr

/-- The three formats of R70. -/
inductive Format where
  | cmd32
  | adcTx24
  | adcRx24
  deriving DecidableEq, Repr

/-- What a port carries (R70): 'a decoder knows the length from the port alone'. A command word is a 32-bit number
(R54); a frame is three bytes, byte 0 first (R59). -/
inductive PortWord where
  | cmd32 (w : Word)
  | adcTx24 (b0 b1 b2 : Byte)
  | adcRx24 (b0 b1 b2 : Byte)
  deriving DecidableEq, Repr

/-- Why a port word is no instruction. Only the outbound format has such words: R79 lists its eight frames. -/
inductive DecodeError where
  | notAChannelSelectFrame (b0 b1 b2 : Byte)
  deriving DecidableEq, Repr

/-- The format each row of the opcode table belongs to. -/
def Instr.format : Instr → Format
  | .nop | .frame _ | .decode | .read _ | .trackClear | .trackPush _ | .peak | .rescale | .sample _ => .cmd32
  | .reserved9 | .reservedA | .reservedB | .reservedC | .reservedD | .reservedE | .reservedF => .cmd32
  | .adcSeCh0 | .adcSeCh1 | .adcSeCh2 | .adcSeCh3 | .adcSeCh4 | .adcSeCh5 | .adcSeCh6 | .adcSeCh7 => .adcTx24
  | .adcResult _ _ _ => .adcRx24

/-- The format a port word is of. -/
def PortWord.format : PortWord → Format
  | .cmd32 _ => .cmd32
  | .adcTx24 _ _ _ => .adcTx24
  | .adcRx24 _ _ _ => .adcRx24

end Sys2Proof
end

