-- ==== Sys2Proof/Machine/State.lean ====
section
/-!
DEFINITION. The state of the block (R20), of the agents around it as far as a step needs it (R14), the reasons a step
can stop, and the state after reset (R41). Plain data throughout.
-/

namespace Sys2Proof.Machine

/-- hid.PHASE (R36). -/
inductive Phase where
  | idle
  | exec
  | readWait
  | sampleCheck
  | sampleWait
  deriving DecidableEq, Repr

/-- CTRL.TRK_MODE (R22): 0 is SENTINEL, 1 is FIRST_SAMPLE. -/
inductive TrkMode where
  | sentinel
  | firstSample
  deriving DecidableEq, Repr

/-- The completion codes of R201. -/
inductive Err where
  | none
  | illegalOp
  | invalidChannel
  | transferFailure
  | invalidSample
  | invalidScale
  | divZero
  | overflow
  /-- Reserved for the host's connect failure and never raised by the block (R209). -/
  | noDevice
  deriving DecidableEq, Repr

/-- The 18 registers of R21, in the order of their indices. -/
inductive Reg where
  | ctrl
  | status
  | cmd
  | windowMs
  | scaleMax
  | tx
  | rx
  | raw
  | readMin
  | readMax
  | count
  | p2p
  | result
  | rsValue
  | rsSrcLo
  | rsSrcHi
  | rsDstLo
  | rsDstHi
  deriving DecidableEq, Repr

/-- The fields of STATUS (R23). Bits 7:5 and 31:12 are hardwired 0 and not held. -/
structure Status where
  busy : Bool
  done : Bool
  empty : Bool
  neg : Bool
  dropped : Bool
  err : BitVec 4
  deriving DecidableEq, Repr

/-- The tracker's registers (R130): READ_MIN, READ_MAX and COUNT, each at the width of R30 to R32. -/
structure Tracker where
  readMin : BitVec 11
  readMax : BitVec 11
  count : Word
  deriving DecidableEq, Repr

/-- The five operand registers of RESCALE (R35). -/
structure RsOperands where
  value : Word
  srcLo : Word
  srcHi : Word
  dstLo : Word
  dstHi : Word
  deriving DecidableEq, Repr

/-- The bus agent's own state (R108): nothing to do, a frame handed over and not yet answered, or an answer the block
has not consumed yet. -/
inductive BusPort where
  | quiet
  | issued (b0 b1 b2 : Byte)
  | answered (a : BusAnswer)
  deriving DecidableEq, Repr

/-- The model's own fields: what stands outside the block (R15) and a deterministic step needs as data. Each queue
holds inputs already decided; past its end the step takes a free value of `Config` (logs 1 to 5). -/
structure Env where
  /-- Whose turns come next (R14). -/
  schedule : List Agent
  /-- What the host issues next (R15). -/
  hostQueue : List HostTxn
  /-- What the bus answers next (R108). -/
  busQueue : List BusAnswer
  /-- By how many milliseconds the timebase advances next (R211). -/
  tickQueue : List Nat
  /-- How many free values have been taken. -/
  draws : Nat
  /-- The value `now_ms()` returns (R211). -/
  clock : Nat
  /-- The value the last HostRead returned to the host (R51), if there was one. -/
  readData : Option Word
  deriving DecidableEq, Repr

/-- The whole state: the registers of R21 by their fields, the hidden state of R36 to R38, the bus agent, and the
model's own fields. -/
structure State where
  /-- CTRL.TRK_MODE (R22). -/
  trkMode : TrkMode
  /-- STATUS (R23). -/
  status : Status
  /-- CMD (R24). -/
  cmd : Word
  /-- WINDOW_MS (R25). -/
  windowMs : Word
  /-- SCALE_MAX (R26). -/
  scaleMax : Word
  /-- TX, bits 23:0 (R27). -/
  tx : Frame24
  /-- RX, bits 23:0 (R28). -/
  rx : Frame24
  /-- RAW, bits 9:0 (R29). -/
  raw : BitVec 10
  /-- READ_MIN, READ_MAX, COUNT (R30 to R32). -/
  tracker : Tracker
  /-- P2P (R33). -/
  p2p : Word
  /-- RESULT (R34). -/
  result : Word
  /-- RS_VALUE to RS_DST_HI (R35). -/
  rs : RsOperands
  /-- hid.PHASE (R36). -/
  phase : Phase
  /-- hid.T0 (R37). -/
  t0 : Nat
  /-- hid.PENDING (R38). -/
  pending : Bool
  /-- The bus agent (R108). -/
  bus : BusPort
  /-- The model's own fields. -/
  env : Env
  deriving DecidableEq, Repr

/-- Why a step stops. Both reasons stand at states no run reaches (log 9); the spec's own errors are completion codes
and never stop the block (R200). -/
inductive Fault where
  /-- Raised where a frame would be issued while another is pending: 'the block issues a frame only while
  hid.PENDING = false' (R58), so the spec gives the case no effect. Safe. -/
  | frameWhilePending
  /-- Raised by a window check whose CMD holds a channel above 7: 'a model must not give the block any frame for
  ch >= 8' (R112), and SAMPLE's start has validated the channel (R174). Safe. -/
  | frameWithoutChannel
  deriving DecidableEq, Repr

/-- Why a step has no meaning. -/
inductive Refusal where
  /-- An arm of `exec` without a meaning yet; raised by `exec` alone. Safe. -/
  | notModelled (mnemonic : String)
  /-- Raised by the bus agent's step on an outstanding frame that is none of the eight of R79, which the block never
  emits (log 10). Safe. -/
  | undecodable (e : DecodeError)
  deriving DecidableEq, Repr

/-- What a meaning answers. -/
abbrev Result := Host.Outcome State Fault Refusal

/-- The machine right after reset: every value of R41, the bus agent quiet (R231), and the model's own fields at the
values logs 1 to 5 and 16 name. -/
def State.reset : State where
  trkMode := .sentinel
  status := { busy := false, done := false, empty := false, neg := false, dropped := false, err := 0 }
  cmd := 0
  windowMs := 0
  scaleMax := 0
  tx := 0
  rx := 0
  raw := 0
  tracker := { readMin := 1024, readMax := 0, count := 0 }
  p2p := 0
  result := 0
  rs := { value := 0, srcLo := 0, srcHi := 0, dstLo := 0, dstHi := 0 }
  phase := .idle
  t0 := 0
  pending := false
  bus := .quiet
  env :=
    { schedule := [], hostQueue := [], busQueue := [], tickQueue := [], draws := 0, clock := 0, readData := none }

end Sys2Proof.Machine
end

