-- ==== Sys2Proof/Machine/Operands.lean ====
section
/-!
DEFINITION. Operand forms and the pure functions of the rules: reading a pattern as a number (R8, R83), exact
arithmetic (R9 to R11), the framer and the decoder (R100, R101, R111), the tracker (R131 to R133) and the rescaler
(R150, R155).
-/

namespace Sys2Proof.Machine

/-! ## Numbers -/

/-- `u32(v)` (R8). -/
def u32 (w : Word) : Nat := w.toNat

/-- `i32(v)` (R8): two's complement. -/
def i32 (w : Word) : Int := w.toInt

/-- The i32 encoding of an integer (R8, R136, R152). Every caller's value fits in reachable states (log 19). -/
def ofI32 (z : Int) : Word := BitVec.ofInt 32 z

/-- Whether an integer is representable as i32 (R151). -/
def fitsI32 (z : Int) : Bool := i32Min ≤ z && z ≤ i32Max

/-- `ceil_div(a, b)` by the algorithm of R10; the inner quotient is floor division by a positive number (R9). -/
def ceilDiv (a b : Int) : Int :=
  if b < 0 then (-a + -b - 1) / -b else (a + b - 1) / b

/-- `sat_inc32(n)` (R11). -/
def satInc32 (n : Word) : Word :=
  if n.toNat = 2 ^ 32 - 1 then n else n + 1

/-! ## Framer and decoder -/

/-- `valid_channel(ch)` (R111), answering the channel so that `Frame` cannot be applied to another (R100, R112). -/
def toChannel (ch : Nat) : Option (Fin 8) :=
  if h : ch ≤ 7 then some ⟨ch, Nat.lt_succ_of_le h⟩ else none

/-- Byte 1 of `Frame(ch)` (R100): the single-ended bit and the channel selector. -/
def configByte (ch : Fin 8) : Byte := (0b1000#8 ||| BitVec.ofNat 8 ch.val) <<< 4

/-- Three bytes packed with byte 0 in bits 23:16 (R27, R28, R60). -/
def pack24 (b0 b1 b2 : Byte) : Frame24 := b0 ++ b1 ++ b2

/-- `Frame(ch)` of R100 as TX holds it (R27). -/
def frameWord (ch : Fin 8) : Frame24 := pack24 startByte (configByte ch) padByte

/-- `Decode(rx0, rx1, rx2)` (R101). Byte 0 is not used. -/
def decodeSample (_rx0 rx1 rx2 : Byte) : BitVec 10 :=
  ((rx1 &&& 0x03#8).setWidth 10 <<< 8) ||| rx2.setWidth 10

/-- Byte k of a packed frame (R104). -/
def byteOf (f : Frame24) (k : Nat) : Byte := f.extractLsb' (16 - 8 * k) 8

/-! ## Tracker -/

/-- `TrackClear()` (R131). -/
def trackClear : Tracker :=
  { readMin := minSentinel, readMax := maxSentinel, count := 0 }

/-- The else-if of R132: a sample that raises the maximum is not tested against the minimum. -/
def trackCompare (v : BitVec 10) (t : Tracker) : Tracker :=
  if t.readMax.toNat < v.toNat then { t with readMax := v.setWidth 11 }
  else if v.toNat < t.readMin.toNat then { t with readMin := v.setWidth 11 }
  else t

/-- The bounds after a push: R132 in SENTINEL mode, R133 in FIRST_SAMPLE mode. -/
def trackBounds (m : TrkMode) (v : BitVec 10) (t : Tracker) : Tracker :=
  match m with
  | .sentinel => trackCompare v t
  | .firstSample =>
    if t.count = 0 then { t with readMin := v.setWidth 11, readMax := v.setWidth 11 }
    else trackCompare v t

/-- `TrackPush(v)` (R132, R133): the bounds, then the saturating count. -/
def trackPush (m : TrkMode) (v : BitVec 10) (t : Tracker) : Tracker :=
  { trackBounds m v t with count := satInc32 t.count }

/-- READ_MAX - READ_MIN as an integer (R136). -/
def span (t : Tracker) : Int := (t.readMax.toNat : Int) - (t.readMin.toNat : Int)

/-! ## Rescaler -/

/-- `Rescale(value, sl, sh, dl, dh)` (R150), exact on unbounded integers (R9, R151). -/
def rescale (value sl sh dl dh : Int) : Int :=
  dl + ceilDiv ((value - sl) * (dh - dl)) (sh - sl)

/-- `RescaleSample(p, s)` (R155). -/
def rescaleSample (p s : Int) : Int := rescale p sampleSrcLo sampleSrcHi sampleDstLo s

/-! ## Time -/

/-- `now_ms() - hid.T0`, an integer (R9, R174, R211). -/
def elapsed (s : State) : Int := (s.env.clock : Int) - (s.t0 : Int)

/-- The window check of R174, strict: 'less than window_ms'. -/
def windowOpen (s : State) : Bool := elapsed s < (u32 s.windowMs : Int)

end Sys2Proof.Machine
end

