-- ==== Sys2Proof/Machine/Flags.lean ====
section
/-!
DEFINITION. The flags: the codes of ERR (R201), what `Peak` makes of EMPTY and NEG (R136), and the STATUS and CTRL
words a host read returns (R22, R23).
-/

namespace Sys2Proof.Machine

/-- The codes of R201. -/
def errCode : Err → BitVec 4
  | .none => 0
  | .illegalOp => 1
  | .invalidChannel => 2
  | .transferFailure => 3
  | .invalidSample => 4
  | .invalidScale => 5
  | .divZero => 6
  | .overflow => 7
  | .noDevice => 8

/-- P2P as `Peak` writes it (R136): 0 for an empty window, else READ_MAX - READ_MIN, unclamped. -/
def peakP2p (t : Tracker) : Word := if t.count = 0 then 0 else ofI32 (span t)

/-- EMPTY as `Peak` writes it (R136). -/
def peakEmpty (t : Tracker) : Bool := t.count == 0

/-- NEG as `Peak` writes it (R136). -/
def peakNeg (t : Tracker) : Bool := if t.count = 0 then false else span t < 0

/-- A flag as one bit. -/
def flagBit (b : Bool) : BitVec 1 := BitVec.ofBool b

/-- STATUS as read (R23): ERR in bits 11:8, DROPPED, NEG, EMPTY, DONE, BUSY in bits 4 to 0, the rest 0. -/
def statusWord (f : Status) : Word :=
  0#20 ++ f.err ++ 0#3 ++ flagBit f.dropped ++ flagBit f.neg ++ flagBit f.empty ++ flagBit f.done ++ flagBit f.busy

/-- CTRL as read (R22): TRK_MODE in bit 0, the rest 0. -/
def ctrlWord : TrkMode → Word
  | .sentinel => 0
  | .firstSample => 1

/-- TRK_MODE from bit 0 of a word written to CTRL (R22, R52). -/
def trkModeOf (v : Word) : TrkMode := if v.getLsbD 0 then .firstSample else .sentinel

end Sys2Proof.Machine
end

