-- ==== Sys2Proof/Machine/Ops.lean ====
section
/-!
DEFINITION. The shared operations: acceptance and completion of a command, which is the block's counterpart of taking
and ending an exception (R170, R171, R204), the bus port (R58), the tracker and `Peak` on the state, reset (R230), and
the host port (R51, R52).
-/

namespace Sys2Proof.Machine

/-! ## Acceptance and completion -/

/-- `accept(v)` (R170). ERR, EMPTY and NEG wait for completion. -/
def accept (v : Word) (s : State) : State :=
  { s with
    cmd := v
    status := { s.status with busy := true, done := false }
    phase := .exec }

/-- `complete(err)` (R171): the only way a command ends, with an error or without (R204). -/
def complete (e : Err) (s : State) : State :=
  { s with
    status := { s.status with err := errCode e, busy := false, done := true }
    phase := .idle }

/-! ## Bus port -/

/-- `TX <- Frame(ch)`, `BusIssue` of it, and the phase that waits for the answer (R58, R105, R174). -/
def issueFrame (ch : Fin 8) (wait : Phase) (s : State) : Result :=
  if s.pending then .fault .frameWhilePending
  else .next { s with
    tx := frameWord ch
    pending := true
    bus := .issued startByte (configByte ch) padByte
    phase := wait }

/-- The response is consumed (R58): PENDING falls and the bus agent has nothing left to do. -/
def consume (s : State) : State := { s with pending := false, bus := .quiet }

/-- An OK response is consumed and decoded (R106, R175): RX takes the three bytes, RAW the sample. -/
def receive (rx0 rx1 rx2 : Byte) (s : State) : State :=
  { consume s with rx := pack24 rx0 rx1 rx2, raw := decodeSample rx0 rx1 rx2 }

/-! ## Tracker and Peak -/

/-- `TrackClear()` on the state (R131). -/
def clearTracker (s : State) : State := { s with tracker := trackClear }

/-- `TrackPush(v)` on the state, in the mode of CTRL (R132, R133). -/
def pushSample (v : BitVec 10) (s : State) : State :=
  { s with tracker := trackPush s.trkMode v s.tracker }

/-- `Peak()` (R136). -/
def storePeak (s : State) : State :=
  { s with
    p2p := peakP2p s.tracker
    status := { s.status with empty := peakEmpty s.tracker, neg := peakNeg s.tracker } }

/-! ## Reset -/

/-- The reset input (R230, R231): every register and the hidden state as R41 has them, the running command abandoned,
a pending answer dropped. What stands outside the block goes on (R232; log 12). -/
def resetBlock (s : State) : State := { State.reset with env := s.env }

/-! ## Host port -/

/-- The register an index names (R21); 18 to 255 are unmapped. -/
def regOfIndex (i : BitVec 8) : Option Reg :=
  match i.toNat with
  | 0 => some .ctrl
  | 1 => some .status
  | 2 => some .cmd
  | 3 => some .windowMs
  | 4 => some .scaleMax
  | 5 => some .tx
  | 6 => some .rx
  | 7 => some .raw
  | 8 => some .readMin
  | 9 => some .readMax
  | 10 => some .count
  | 11 => some .p2p
  | 12 => some .result
  | 13 => some .rsValue
  | 14 => some .rsSrcLo
  | 15 => some .rsSrcHi
  | 16 => some .rsDstLo
  | 17 => some .rsDstHi
  | _ => none

/-- A register as the host reads it (R51), hardwired bits 0. -/
def regValue (s : State) : Reg → Word
  | .ctrl => ctrlWord s.trkMode
  | .status => statusWord s.status
  | .cmd => s.cmd
  | .windowMs => s.windowMs
  | .scaleMax => s.scaleMax
  | .tx => s.tx.setWidth 32
  | .rx => s.rx.setWidth 32
  | .raw => s.raw.setWidth 32
  | .readMin => s.tracker.readMin.setWidth 32
  | .readMax => s.tracker.readMax.setWidth 32
  | .count => s.tracker.count
  | .p2p => s.p2p
  | .result => s.result
  | .rsValue => s.rs.value
  | .rsSrcLo => s.rs.srcLo
  | .rsSrcHi => s.rs.srcHi
  | .rsDstLo => s.rs.dstLo
  | .rsDstHi => s.rs.dstHi

/-- `HostRead(i)` (R51): the register's current value, 0 for an unmapped index, at any time. -/
def hostRead (i : BitVec 8) (s : State) : Word :=
  match regOfIndex i with
  | some r => regValue s r
  | none => 0

/-- Whether a host write to the register is ignored outright (R52: 'read-only or unmapped'). -/
def readOnly : Reg → Bool
  | .tx | .raw | .readMin | .readMax | .count | .p2p | .result => true
  | .ctrl | .status | .cmd | .windowMs | .scaleMax | .rx => false
  | .rsValue | .rsSrcLo | .rsSrcHi | .rsDstLo | .rsDstHi => false

/-- The write-1-to-clear of DROPPED, all that a write to STATUS does (R23, R52). -/
def writeStatus (v : Word) (s : State) : State :=
  if v.getLsbD 4 then { s with status := { s.status with dropped := false } } else s

/-- A write to a writable register while busy is dropped and recorded (R52, R207). -/
def dropWrite (s : State) : State := { s with status := { s.status with dropped := true } }

/-- A write while idle (R52, last lines). The registers the cascade has dealt with before keep their value. -/
def storeReg (r : Reg) (v : Word) (s : State) : State :=
  match r with
  | .ctrl => { s with trkMode := trkModeOf v }
  | .cmd => accept v s
  | .windowMs => { s with windowMs := v }
  | .scaleMax => { s with scaleMax := v }
  | .rx => { s with rx := v.setWidth 24 }
  | .rsValue => { s with rs := { s.rs with value := v } }
  | .rsSrcLo => { s with rs := { s.rs with srcLo := v } }
  | .rsSrcHi => { s with rs := { s.rs with srcHi := v } }
  | .rsDstLo => { s with rs := { s.rs with dstLo := v } }
  | .rsDstHi => { s with rs := { s.rs with dstHi := v } }
  | .status | .tx | .raw | .readMin | .readMax | .count | .p2p | .result => s

/-- `HostWrite(i, v)`: the cascade of R52. -/
def hostWrite (i : BitVec 8) (v : Word) (s : State) : State :=
  match regOfIndex i with
  | none => s
  | some .status => writeStatus v s
  | some r =>
    if readOnly r then s
    else if s.status.busy then dropWrite s
    else storeReg r v s

end Sys2Proof.Machine
end

