-- ==== Sys2Proof/Machine/Framer.lean ====
section
/-!
DEFINITION. FRAME (R103), DECODE (R104) and READ (R105 to R107).
-/

namespace Sys2Proof.Machine

/-- FRAME (R103): TX takes the frame of a valid channel; no transfer. -/
def execFrame (ch : Nat) (s : State) : Result :=
  match toChannel ch with
  | none => .next (complete .invalidChannel s)
  | some c => .next (complete .none { s with tx := frameWord c })

/-- DECODE (R104): RAW takes the sample in RX. -/
def execDecode (s : State) : Result :=
  .next (complete .none { s with raw := decodeSample (byteOf s.rx 0) (byteOf s.rx 1) (byteOf s.rx 2) })

/-- READ, issue part (R105). -/
def execRead (ch : Nat) (s : State) : Result :=
  match toChannel ch with
  | none => .next (complete .invalidChannel s)
  | some c => issueFrame c .readWait s

/-- READ, completion on OK (R106). -/
def readComplete (rx0 rx1 rx2 : Byte) (s : State) : Result :=
  .next (complete .none (receive rx0 rx1 rx2 s))

/-- READ, completion on FAIL (R107): RX and RAW keep their values, TX the frame that failed. -/
def readFailed (s : State) : Result := .next (complete .transferFailure (consume s))

end Sys2Proof.Machine
end

