-- ==== Sys2Proof/Decode.lean ====
section
/-!
DEFINITION. The decoder and, after it, the encoder, both written from the encoding tables of spec/30_encoding.md.
-/

namespace Sys2Proof

/-! ## Fields of CMD32 (R71) -/

/-- OP, bits 3:0. -/
def opField (w : Word) : Nat := (w.extractLsb' 0 4).toNat

/-- CHAN, bits 15:8, zero-extended (R75). -/
def chanField (w : Word) : Nat := (w.extractLsb' 8 8).toNat

/-- VALUE, bits 31:16, zero-extended (R76). -/
def valueField (w : Word) : Nat := (w.extractLsb' 16 16).toNat

/-! ## Decoding -/

/-- The command set of R72 and the reserved OPs of R73. A four-bit OP below 15 has its own line, so the last one is
OP 0xF. -/
def decodeCmd (w : Word) : Instr :=
  match opField w with
  | 0 => .nop
  | 1 => .frame (chanField w)
  | 2 => .decode
  | 3 => .read (chanField w)
  | 4 => .trackClear
  | 5 => .trackPush (valueField w)
  | 6 => .peak
  | 7 => .rescale
  | 8 => .sample (chanField w)
  | 9 => .reserved9
  | 10 => .reservedA
  | 11 => .reservedB
  | 12 => .reservedC
  | 13 => .reservedD
  | 14 => .reservedE
  | _ => .reservedF

/-- The row ADC_SE_CH<k> of a three-bit channel selector (R77, R79). -/
def selectorInstr (sel : BitVec 3) : Instr :=
  match sel.toNat with
  | 0 => .adcSeCh0
  | 1 => .adcSeCh1
  | 2 => .adcSeCh2
  | 3 => .adcSeCh3
  | 4 => .adcSeCh4
  | 5 => .adcSeCh5
  | 6 => .adcSeCh6
  | _ => .adcSeCh7

/-- The fixed bits of an outbound frame (R77): byte 0 is 0x01, byte 1 has bit 7 set and bits 3:0 clear, byte 2 is
0x00. -/
def isChannelSelect (b0 b1 b2 : Byte) : Bool :=
  b0 == 0x01#8 && b1.extractLsb' 7 1 == 1#1 && b1.extractLsb' 0 4 == 0#4 && b2 == 0x00#8

/-- The decoder, total on what a port carries. Every command word decodes (R73, R86) and every inbound frame decodes
(R80); an outbound frame outside R79 is rejected by name. -/
def decode : PortWord → Except DecodeError Instr
  | .cmd32 w => .ok (decodeCmd w)
  | .adcTx24 b0 b1 b2 =>
    if isChannelSelect b0 b1 b2 then .ok (selectorInstr (b1.extractLsb' 4 3))
    else .error (.notAChannelSelectFrame b0 b1 b2)
  | .adcRx24 b0 b1 b2 => .ok (.adcResult b0 b1 b2)

/-! ## Encoding -/

/-- A command word with its ignored bits 7:4 clear (R71, R85). -/
def cmdWord (op : BitVec 4) (chan : BitVec 8) (value : BitVec 16) : PortWord :=
  .cmd32 (value ++ chan ++ 0#4 ++ op)

/-- The outbound frame of a channel selector (R77). -/
def channelSelect (sel : BitVec 3) : PortWord :=
  .adcTx24 0x01#8 (1#1 ++ sel ++ 0#4) 0x00#8

/-- The words of an instruction (R72, R77, R80). An operand beyond its field, which `Instr.wf` refuses, is cut to it. -/
def encode : Instr → PortWord
  | .nop => cmdWord 0x0#4 0 0
  | .frame ch => cmdWord 0x1#4 (BitVec.ofNat 8 ch) 0
  | .decode => cmdWord 0x2#4 0 0
  | .read ch => cmdWord 0x3#4 (BitVec.ofNat 8 ch) 0
  | .trackClear => cmdWord 0x4#4 0 0
  | .trackPush v => cmdWord 0x5#4 0 (BitVec.ofNat 16 v)
  | .peak => cmdWord 0x6#4 0 0
  | .rescale => cmdWord 0x7#4 0 0
  | .sample ch => cmdWord 0x8#4 (BitVec.ofNat 8 ch) 0
  | .reserved9 => cmdWord 0x9#4 0 0
  | .reservedA => cmdWord 0xA#4 0 0
  | .reservedB => cmdWord 0xB#4 0 0
  | .reservedC => cmdWord 0xC#4 0 0
  | .reservedD => cmdWord 0xD#4 0 0
  | .reservedE => cmdWord 0xE#4 0 0
  | .reservedF => cmdWord 0xF#4 0 0
  | .adcSeCh0 => channelSelect 0
  | .adcSeCh1 => channelSelect 1
  | .adcSeCh2 => channelSelect 2
  | .adcSeCh3 => channelSelect 3
  | .adcSeCh4 => channelSelect 4
  | .adcSeCh5 => channelSelect 5
  | .adcSeCh6 => channelSelect 6
  | .adcSeCh7 => channelSelect 7
  | .adcResult rx0 rx1 rx2 => .adcRx24 rx0 rx1 rx2

/-! ## The opcode table's numbering -/

/-- Byte k of a 24-bit pattern of the opcode table, which holds byte 0 in bits 23:16 (R77, R80). -/
def tableByte (w : Nat) (k : Nat) : Byte := (BitVec.ofNat 24 w).extractLsb' (16 - 8 * k) 8

/-- The port word a row's bits stand for. A 24-bit row is a bus frame: read as outbound where it is one of the eight
frames, as inbound otherwise, since the rows of the two directions share values and the table has no port (log 8).
Any other length is a command word, whose missing upper bits are 0. -/
def tablePortWord (nbits w : Nat) : PortWord :=
  if nbits = 24 then
    if isChannelSelect (tableByte w 0) (tableByte w 1) (tableByte w 2) then
      .adcTx24 (tableByte w 0) (tableByte w 1) (tableByte w 2)
    else .adcRx24 (tableByte w 0) (tableByte w 1) (tableByte w 2)
  else .cmd32 (BitVec.ofNat 32 w)

/-- The instruction the decoder reads from a row's bits. -/
def decodeTableWord (nbits w : Nat) : Option Instr :=
  match decode (tablePortWord nbits w) with
  | .ok i => some i
  | .error _ => none

end Sys2Proof
end

