-- ==== Sys2Proof/Machine/Sampler.lean ====
section
/-!
DEFINITION. SAMPLE: start (R173), window check (R174), push (R175), abort (R176) and finish (R177).
-/

namespace Sys2Proof.Machine

/-- SAMPLE, start (R173): channel, then scale (R203), then the tracker is cleared and T0 latched. -/
def execSample (ch : Nat) (s : State) : Result :=
  match toChannel ch with
  | none => .next (complete .invalidChannel s)
  | some _ =>
    if i32 s.scaleMax < 0 then .next (complete .invalidScale s)
    else .next { clearTracker s with t0 := s.env.clock, phase := .sampleCheck }

/-- SAMPLE, finish (R177): `Peak`, then RESULT from the P2P it wrote, then completion. -/
def sampleFinish (s : State) : State :=
  complete .none { storePeak s with
    result := ofI32 (rescaleSample (i32 (storePeak s).p2p) (i32 s.scaleMax)) }

/-- SAMPLE, window check (R174): the channel is CMD's, validated at the start. -/
def windowCheck (s : State) : Result :=
  if windowOpen s then
    match toChannel (chanField s.cmd) with
    | some c => issueFrame c .sampleWait s
    | none => .fault .frameWithoutChannel
  else .next (sampleFinish s)

/-- SAMPLE, response OK (R175): decode, push and loop. -/
def samplePush (rx0 rx1 rx2 : Byte) (s : State) : Result :=
  .next { pushSample (decodeSample rx0 rx1 rx2) (receive rx0 rx1 rx2 s) with phase := .sampleCheck }

/-- SAMPLE, response FAIL (R176): the abort keeps the partial registers and writes no measurement. -/
def sampleAborted (s : State) : Result := .next (complete .transferFailure (consume s))

end Sys2Proof.Machine
end

