-- ==== Sys2Proof/Machine/Turns.lean ====
section
/-!
DEFINITION. The agents around the block (R14): whose turn it is, and the turns of the host (R51, R52) and the timebase
(R211). Each takes its input from its queue and, past the queue's end, from a free value of `Config` (logs 1 to 4).
-/

namespace Sys2Proof.Machine

/-- The next input, the queue after it and the number of free values taken after it. -/
def draw {α : Type} (queue : List α) (free : Nat → α) (n : Nat) : α × List α × Nat :=
  match queue with
  | a :: rest => (a, rest, n)
  | [] => (free n, [], n + 1)

/-- Whose turn it is: 'any enabled agent may step next' (R14). -/
def nextAgent (s : State) : Agent := (draw s.env.schedule Config.agentTurn s.env.draws).1

/-- The state once that turn has been taken from the schedule. -/
def afterTurn (s : State) : State :=
  { s with env := { s.env with
      schedule := (draw s.env.schedule Config.agentTurn s.env.draws).2.1
      draws := (draw s.env.schedule Config.agentTurn s.env.draws).2.2 } }

/-- A host transaction's effect (R51, R52). A read changes nothing but what the host has in hand. -/
def transact (x : HostTxn) (s : State) : State :=
  match x with
  | .read i => { s with env := { s.env with readData := some (hostRead i s) } }
  | .write i v => hostWrite i v s

/-- The host's turn: its next transaction. -/
def hostTurn (s : State) : State :=
  transact (draw s.env.hostQueue Config.hostTransaction s.env.draws).1
    { s with env := { s.env with
        hostQueue := (draw s.env.hostQueue Config.hostTransaction s.env.draws).2.1
        draws := (draw s.env.hostQueue Config.hostTransaction s.env.draws).2.2 } }

/-- The timebase's turn (R211): `now_ms` grows by a whole number of milliseconds, never falls and never wraps. -/
def timebaseTurn (s : State) : State :=
  { s with env := { s.env with
      clock := s.env.clock + (draw s.env.tickQueue Config.tick s.env.draws).1
      tickQueue := (draw s.env.tickQueue Config.tick s.env.draws).2.1
      draws := (draw s.env.tickQueue Config.tick s.env.draws).2.2 } }

end Sys2Proof.Machine
end

