-- ==== Sys2Proof/Machine/Bus.lean ====
section
/-!
DEFINITION. The bus port: what the bus agent does with each of the eight frames (R79, R108), what the block does with
an inbound frame (R101, R106, R175), and where the two fetch their words.
-/

namespace Sys2Proof.Machine

/-- The bus agent's step on a frame that selects `ch` (R108): while a frame is pending and not yet answered it delivers
one answer, a draw; otherwise it takes no step (log 6). -/
def answerFrame (ch : Fin 8) (s : State) : Result :=
  match s.pending, s.bus with
  | true, .issued _ _ _ =>
    .next { s with
      bus := .answered (draw s.env.busQueue (Config.busAnswer ch) s.env.draws).1
      env := { s.env with
        busQueue := (draw s.env.busQueue (Config.busAnswer ch) s.env.draws).2.1
        draws := (draw s.env.busQueue (Config.busAnswer ch) s.env.draws).2.2 } }
  | _, _ => .next s

/-- ADC_SE_CH0 (R100, R108). -/
def execAdcSeCh0 (s : State) : Result := answerFrame 0 s

/-- ADC_SE_CH1 (R100, R108). -/
def execAdcSeCh1 (s : State) : Result := answerFrame 1 s

/-- ADC_SE_CH2 (R100, R108). -/
def execAdcSeCh2 (s : State) : Result := answerFrame 2 s

/-- ADC_SE_CH3 (R100, R108). -/
def execAdcSeCh3 (s : State) : Result := answerFrame 3 s

/-- ADC_SE_CH4 (R100, R108). -/
def execAdcSeCh4 (s : State) : Result := answerFrame 4 s

/-- ADC_SE_CH5 (R100, R108). -/
def execAdcSeCh5 (s : State) : Result := answerFrame 5 s

/-- ADC_SE_CH6 (R100, R108). -/
def execAdcSeCh6 (s : State) : Result := answerFrame 6 s

/-- ADC_SE_CH7 (R100, R108). -/
def execAdcSeCh7 (s : State) : Result := answerFrame 7 s

/-- ADC_RESULT (R101): READ's completion in READ_WAIT (R106), SAMPLE's push in SAMPLE_WAIT (R175). In every other phase
no block step consumes a response, and nothing happens (R231; log 7). -/
def execAdcResult (rx0 rx1 rx2 : Byte) (s : State) : Result :=
  match s.phase with
  | .readWait => readComplete rx0 rx1 rx2 s
  | .sampleWait => samplePush rx0 rx1 rx2 s
  | .idle | .exec | .sampleCheck => .next s

/-- A FAIL response (R107, R176), by the phase that waits for it; in every other phase nothing happens. -/
def transferFailed (s : State) : Result :=
  match s.phase with
  | .readWait => readFailed s
  | .sampleWait => sampleAborted s
  | .idle | .exec | .sampleCheck => .next s

/-! ## Where each agent finds its next word -/

/-- The command word of the execute step: 'OP means reg[CMD][3:0]' (R181). -/
def fetchCommand (s : State) : PortWord := .cmd32 s.cmd

/-- The outbound frame the bus agent has to answer, if there is one (R108). -/
def fetchFrame (s : State) : Option PortWord :=
  match s.pending, s.bus with
  | true, .issued b0 b1 b2 => some (.adcTx24 b0 b1 b2)
  | _, _ => none

/-- The answer the block has to consume, if the bus has answered (R58, R181). -/
def fetchAnswer (s : State) : Option BusAnswer :=
  match s.bus with
  | .answered a => some a
  | .quiet | .issued _ _ _ => none

/-- A command word stored where the execute step fetches it: accepted, as by a host write to CMD (R170), and the
block's turn next. -/
def placeCommand (w : Word) (s : State) : State :=
  { accept w s with env := { s.env with schedule := .block :: s.env.schedule } }

/-- An outbound frame stored where the bus agent fetches it (R58), and the bus agent's turn next. -/
def placeFrame (b0 b1 b2 : Byte) (s : State) : State :=
  { s with
    pending := true
    bus := .issued b0 b1 b2
    env := { s.env with schedule := .bus :: s.env.schedule } }

/-- An inbound frame stored where the block fetches it: the bus has answered with it, the block waits for it, and it is
the block's turn. A SAMPLE that waits goes on waiting; any other phase becomes READ_WAIT. -/
def placeAnswer (b0 b1 b2 : Byte) (s : State) : State :=
  { s with
    pending := true
    bus := .answered (.ok b0 b1 b2)
    phase := if s.phase = .sampleWait then .sampleWait else .readWait
    env := { s.env with schedule := .block :: s.env.schedule } }

/-- A port word stored where the agent that runs it fetches it next. -/
def placeWord (p : PortWord) (s : State) : State :=
  match p with
  | .cmd32 w => placeCommand w s
  | .adcTx24 b0 b1 b2 => placeFrame b0 b1 b2 s
  | .adcRx24 b0 b1 b2 => placeAnswer b0 b1 b2 s

end Sys2Proof.Machine
end

