-- ==== Sys2Proof/Machine/Control.lean ====
section
/-!
DEFINITION. NOP (R172) and the reserved OPs 0x9 to 0xF (R73).
-/

namespace Sys2Proof.Machine

/-- NOP (R172). -/
def execNop (s : State) : Result := .next (complete .none s)

/-- A reserved OP runs no function and completes with ILLEGAL_OP (R73). -/
def illegalOp (s : State) : Result := .next (complete .illegalOp s)

/-- OP 0x9 (R73). -/
def execReserved9 (s : State) : Result := illegalOp s

/-- OP 0xA (R73). -/
def execReservedA (s : State) : Result := illegalOp s

/-- OP 0xB (R73). -/
def execReservedB (s : State) : Result := illegalOp s

/-- OP 0xC (R73). -/
def execReservedC (s : State) : Result := illegalOp s

/-- OP 0xD (R73). -/
def execReservedD (s : State) : Result := illegalOp s

/-- OP 0xE (R73). -/
def execReservedE (s : State) : Result := illegalOp s

/-- OP 0xF (R73). -/
def execReservedF (s : State) : Result := illegalOp s

end Sys2Proof.Machine
end

