-- ==== Sys2Proof/Machine/Rescaler.lean ====
section
/-!
DEFINITION. RESCALE (R152).
-/

namespace Sys2Proof.Machine

/-- `Rescale` on the five operand registers, read as i32 (R152). -/
def rescaleOperands (o : RsOperands) : Int :=
  rescale (i32 o.value) (i32 o.srcLo) (i32 o.srcHi) (i32 o.dstLo) (i32 o.dstHi)

/-- RESCALE (R152): DIV_ZERO before OVERFLOW (R203), RESULT written on success only. -/
def execRescale (s : State) : Result :=
  if i32 s.rs.srcHi = i32 s.rs.srcLo then .next (complete .divZero s)
  else if fitsI32 (rescaleOperands s.rs) then
    .next (complete .none { s with result := ofI32 (rescaleOperands s.rs) })
  else .next (complete .overflow s)

end Sys2Proof.Machine
end

