-- ==== Sys2Proof/Machine/Tracking.lean ====
section
/-!
DEFINITION. TRACK_CLEAR (R134), TRACK_PUSH (R135) and PEAK (R137).
-/

namespace Sys2Proof.Machine

/-- TRACK_CLEAR (R134). -/
def execTrackClear (s : State) : Result := .next (complete .none (clearTracker s))

/-- TRACK_PUSH (R135): a VALUE outside the RawReading range leaves the tracker alone. -/
def execTrackPush (v : Nat) (s : State) : Result :=
  if rawMax < v then .next (complete .invalidSample s)
  else .next (complete .none (pushSample (BitVec.ofNat 10 v) s))

/-- PEAK (R137). -/
def execPeak (s : State) : Result := .next (complete .none (storePeak s))

end Sys2Proof.Machine
end

