-- ==== Sys2Proof/Machine/Dispatch.lean ====
section
/-!
DEFINITION. One arm per row of the opcode table.
-/

namespace Sys2Proof.Machine

def exec (i : Instr) (s : State) : Host.Outcome State Fault Refusal :=
  match i with
  | .nop => Sys2Proof.Machine.execNop s
  | .frame ch => Sys2Proof.Machine.execFrame ch s
  | .decode => Sys2Proof.Machine.execDecode s
  | .read ch => Sys2Proof.Machine.execRead ch s
  | .trackClear => Sys2Proof.Machine.execTrackClear s
  | .trackPush v => Sys2Proof.Machine.execTrackPush v s
  | .peak => Sys2Proof.Machine.execPeak s
  | .rescale => Sys2Proof.Machine.execRescale s
  | .sample ch => Sys2Proof.Machine.execSample ch s
  | .reserved9 => Sys2Proof.Machine.execReserved9 s
  | .reservedA => Sys2Proof.Machine.execReservedA s
  | .reservedB => Sys2Proof.Machine.execReservedB s
  | .reservedC => Sys2Proof.Machine.execReservedC s
  | .reservedD => Sys2Proof.Machine.execReservedD s
  | .reservedE => Sys2Proof.Machine.execReservedE s
  | .reservedF => Sys2Proof.Machine.execReservedF s
  | .adcSeCh0 => Sys2Proof.Machine.execAdcSeCh0 s
  | .adcSeCh1 => Sys2Proof.Machine.execAdcSeCh1 s
  | .adcSeCh2 => Sys2Proof.Machine.execAdcSeCh2 s
  | .adcSeCh3 => Sys2Proof.Machine.execAdcSeCh3 s
  | .adcSeCh4 => Sys2Proof.Machine.execAdcSeCh4 s
  | .adcSeCh5 => Sys2Proof.Machine.execAdcSeCh5 s
  | .adcSeCh6 => Sys2Proof.Machine.execAdcSeCh6 s
  | .adcSeCh7 => Sys2Proof.Machine.execAdcSeCh7 s
  | .adcResult rx0 rx1 rx2 => Sys2Proof.Machine.execAdcResult rx0 rx1 rx2 s

end Sys2Proof.Machine
end

