-- ==== Sys2Proof/Machine/Controller.lean ====
section
/-!
DEFINITION. The turn of each agent: the block's by the table of R181, the bus agent's by R108, and the choice among the
agents (R14).
-/

namespace Sys2Proof.Machine

/-- Decode a port word and run its instruction. -/
def runWord (p : PortWord) (s : State) : Result :=
  match decode p with
  | .ok i => exec i s
  | .error e => .refused (.undecodable e)

/-- A waiting block's step (R181): none until the bus has answered. -/
def waitStep (s : State) : Result :=
  match fetchAnswer s with
  | some (.ok rx0 rx1 rx2) => runWord (.adcRx24 rx0 rx1 rx2) s
  | some .fail => transferFailed s
  | none => .next s

/-- The block's step, by the table of R181. Where no row applies the block takes no step and the state stands
(log 14). -/
def blockTurn (s : State) : Result :=
  match s.phase with
  | .idle => .next s
  | .exec => runWord (fetchCommand s) s
  | .readWait => waitStep s
  | .sampleCheck => windowCheck s
  | .sampleWait => waitStep s

/-- The bus agent's step (R108), on the frame it has been handed; none if there is none. -/
def busTurn (s : State) : Result :=
  match fetchFrame s with
  | some p => runWord p s
  | none => .next s

/-- One turn of an agent. -/
def turn (a : Agent) (s : State) : Result :=
  match a with
  | .host => .next (hostTurn s)
  | .block => blockTurn s
  | .bus => busTurn s
  | .timebase => .next (timebaseTurn s)
  | .platform => .next (resetBlock s)

end Sys2Proof.Machine
end

