-- ==== Sys2Proof/Machine/Step.lean ====
section
/-!
DEFINITION. One step of the machine: one turn of one agent (R62).
-/

namespace Sys2Proof.Machine

/-- One step: the agent whose turn it is takes it (R14, R62). -/
def step (s : State) : Host.Outcome State Fault Refusal := turn (nextAgent s) (afterTurn s)

/-- The instruction of an opcode-table row placed so that the next step runs it (log 4). -/
def State.withFetchWord (s : State) (nbits w : Nat) : State := placeWord (tablePortWord nbits w) s

end Sys2Proof.Machine
end

