-- ==== Sys2Proof/Safety.lean ====
section
/-!
DEFINITION. The terms in which claims speak: completion and frames of a command, the invariants of R42 and of the block's
control, runs of many steps, and the sequences of samples of R138 and R139.
-/

namespace Sys2Proof.Machine

/-! ## Completion and frames -/

/-- STATUS and PHASE after `complete` with this code (R171), EMPTY and NEG aside. -/
structure CompletedPeak (code : BitVec 4) (s t : State) : Prop where
  busy : t.status.busy = false
  done : t.status.done = true
  err : t.status.err = code
  dropped : t.status.dropped = s.status.dropped
  phase : t.phase = .idle

/-- The same for a command that does not call `Peak`: EMPTY and NEG are unchanged (R23). -/
structure Completed (code : BitVec 4) (s t : State) : Prop extends CompletedPeak code s t where
  empty : t.status.empty = s.status.empty
  neg : t.status.neg = s.status.neg

/-- Every register outside the list reads as before, and T0, PENDING, the bus agent and everything outside the block
are unchanged. -/
structure OnlyRegsChange (regs : List Reg) (s t : State) : Prop where
  regs : ∀ r, r ∉ regs → regValue t r = regValue s r
  t0 : t.t0 = s.t0
  pending : t.pending = s.pending
  bus : t.bus = s.bus
  env : t.env = s.env

/-- The same for a step that also moves the bus port: the registers and T0, and everything outside the block. -/
structure OnlyRegsAndBusChange (regs : List Reg) (s t : State) : Prop where
  regs : ∀ r, r ∉ regs → regValue t r = regValue s r
  t0 : t.t0 = s.t0
  env : t.env = s.env

/-! ## Invariants -/

/-- A phase in which the block waits for the bus (R181). -/
def waiting (p : Phase) : Prop := p = .readWait ∨ p = .sampleWait

/-- A phase of a running SAMPLE past its start (R181). -/
def sampling (p : Phase) : Prop := p = .sampleCheck ∨ p = .sampleWait

/-- The range invariants of R42, in the order of that rule. -/
structure RangeInv (s : State) : Prop where
  raw : s.raw.toNat ≤ 1023
  readMax : s.tracker.readMax.toNat ≤ 1023
  readMin : s.tracker.readMin.toNat ≤ 1024
  tx : s.tx = 0 ∨ ∃ ch : Fin 8, s.tx = 0x018000#24 ||| (BitVec.ofNat 24 ch.val <<< 12)
  p2p : -1023 ≤ i32 s.p2p ∧ i32 s.p2p ≤ 1023
  err : s.status.err.toNat ≤ 7
  busy : s.status.busy = true ↔ s.phase ≠ .idle
  pending : s.pending = true → waiting s.phase

/-- What the rules say of the control besides R42: DONE falls at acceptance (R170), a waiting block has a frame pending
and the bus holds it or its answer (R58), a running SAMPLE has a valid channel, a scale that is not negative and a T0
in the past (R173, R211), and a tracker that has counted a sample has left the sentinels (R140); read together from those
rules (log 21). -/
structure ControlInv (s : State) : Prop where
  done : s.status.busy = true → s.status.done = false
  waitPending : waiting s.phase → s.pending = true
  busPending : s.pending = true ↔ s.bus ≠ .quiet
  busFrame : ∀ b0 b1 b2, s.bus = .issued b0 b1 b2 → isChannelSelect b0 b1 b2 = true ∧ s.tx = pack24 b0 b1 b2
  sampleOp : sampling s.phase → opField s.cmd = 8
  sampleChannel : sampling s.phase → chanField s.cmd ≤ 7
  sampleScale : sampling s.phase → 0 ≤ i32 s.scaleMax
  sampleTime : sampling s.phase → s.t0 ≤ s.env.clock
  counted : s.tracker.count ≠ 0 → 0 < s.tracker.readMax.toNat ∨ s.tracker.readMin.toNat ≤ 1023

/-- The invariant every step keeps. -/
structure BlockInv (s : State) : Prop where
  range : RangeInv s
  control : ControlInv s

/-! ## Runs -/

/-- `k` steps of the machine, ended by a stop; the run of the host's interface (`run_eq_core`). -/
def run : Nat → State → Result
  | 0, s => .next s
  | k + 1, s =>
    match step s with
    | .next t => run k t
    | .fault r => .fault r
    | .refused r => .refused r

/-! ## Sequences of samples (R138, R139) -/

/-- The tracker after pushing the values in order, in one mode. -/
def pushes (m : TrkMode) (vs : List (BitVec 10)) (t : Tracker) : Tracker :=
  vs.foldl (fun t v => trackPush m v t) t

/-- The value `v(k+1)` of a sequence counted from 0. -/
def valueAt (vs : List (BitVec 10)) (k : Nat) : Nat := (vs.getD k 0).toNat

/-- `max(0, v1, ..., vk)`. -/
def maxOfFirst (vs : List (BitVec 10)) (k : Nat) : Nat := ((vs.take k).map BitVec.toNat).foldl max 0

/-- `min(v1, ..., vn)` of a sequence that is not empty (1024 for the empty one). -/
def minOfAll (vs : List (BitVec 10)) : Nat := (vs.map BitVec.toNat).foldl min 1024

/-- The value at `k` is a record (R138): greater than 0 and than every value before it. -/
def isRecord (vs : List (BitVec 10)) (k : Nat) : Prop := maxOfFirst vs k < valueAt vs k

/-- One read inside a window: the time that passes before its check, and the bytes its transfer returns. -/
structure SampleRead where
  tick : Nat
  rx0 : Byte
  rx1 : Byte
  rx2 : Byte
  deriving DecidableEq, Repr

/-- The turns one read takes: time passes, the window check issues the frame, the bus answers, the block pushes. -/
def readTurns (reads : List SampleRead) : List Agent :=
  reads.flatMap fun _ => [.timebase, .block, .bus, .block]

/-- The samples a list of reads decodes to. -/
def samplesOf (reads : List SampleRead) : List (BitVec 10) :=
  reads.map fun r => decodeSample r.rx0 r.rx1 r.rx2

/-- The time a list of reads takes. -/
def timeOf (reads : List SampleRead) : Nat := (reads.map SampleRead.tick).sum

/-! ## Statelessness (R40) -/

/-- Two states that agree on what the running command may depend on: CTRL, CMD, WINDOW_MS, SCALE_MAX, the phase, the
bus port and everything outside the block; and, past SAMPLE's start, on the window's own T0 and tracker. They may
differ in every output an earlier command has left. -/
structure SameInputs (s t : State) : Prop where
  trkMode : t.trkMode = s.trkMode
  cmd : t.cmd = s.cmd
  windowMs : t.windowMs = s.windowMs
  scaleMax : t.scaleMax = s.scaleMax
  phase : t.phase = s.phase
  pending : t.pending = s.pending
  bus : t.bus = s.bus
  env : t.env = s.env
  t0 : sampling s.phase → t.t0 = s.t0
  tracker : sampling s.phase → t.tracker = s.tracker

end Sys2Proof.Machine
end

