-- ==== Sys2Proof/WellFormed.lean ====
section
/-!
DEFINITION. The checks of R85: an operand wider than its field is an assembly error. Every other operand is typed by
its field.
-/

namespace Sys2Proof

/-- CHAN fits its 8 bits: '`ch` above 255' is an assembly error (R85). Whether the channel exists is no matter of
form: the command checks it (R75, R111). -/
def chanFits (ch : Nat) : Bool := ch ≤ 255

/-- VALUE fits its 16 bits: '`v` above 65535' is an assembly error (R85). -/
def valueFits (v : Nat) : Bool := v ≤ 65535

/-- An instruction that can be written down in its format (R85; log 11). -/
def Instr.wf : Instr → Bool
  | .frame ch => chanFits ch
  | .read ch => chanFits ch
  | .sample ch => chanFits ch
  | .trackPush v => valueFits v
  | .nop | .decode | .trackClear | .peak | .rescale => true
  | .reserved9 | .reservedA | .reservedB | .reservedC | .reservedD | .reservedE | .reservedF => true
  | .adcSeCh0 | .adcSeCh1 | .adcSeCh2 | .adcSeCh3 | .adcSeCh4 | .adcSeCh5 | .adcSeCh6 | .adcSeCh7 => true
  | .adcResult _ _ _ => true

end Sys2Proof
end

