-- ==== Sys2Proof/Certificates/Slice0/Obligations.lean ====
section
/-!
DEFINITION. The statements. Each docstring names the rule of spec/ it formalises; where a clause rests on a choice of
the model, it names the log entry.
-/

open Sys2Proof Sys2Proof.Machine

/-! ## Encodings -/

/-- Words written out from R71, R72, R77 and R80, one or more per family. -/
def Obligations.WrittenWordsDecode : Prop :=
  decode (.cmd32 0xFFFFFF00#32) = .ok .nop ∧
  decode (.cmd32 0x00000501#32) = .ok (.frame 5) ∧
  decode (.cmd32 0x00000002#32) = .ok .decode ∧
  decode (.cmd32 0xFFFF03F3#32) = .ok (.read 3) ∧
  decode (.cmd32 0x01F40005#32) = .ok (.trackPush 500) ∧
  decode (.cmd32 0x00000007#32) = .ok .rescale ∧
  decode (.cmd32 0x00000208#32) = .ok (.sample 2) ∧
  decode (.cmd32 0x0000000B#32) = .ok .reservedB ∧
  decode (.adcTx24 0x01#8 0xB0#8 0x00#8) = .ok .adcSeCh3 ∧
  decode (.adcTx24 0x01#8 0x30#8 0x00#8) = .error (.notAChannelSelectFrame 0x01#8 0x30#8 0x00#8) ∧
  decode (.adcRx24 0x00#8 0x02#8 0xFF#8) = .ok (.adcResult 0x00#8 0x02#8 0xFF#8)

/-- Decode and encode agree on every well-formed instruction, every operand at every value of its field (R71, R72, R77,
R80; what well-formed means is log 11). -/
def Obligations.DecodeOfEncodeIsTheInstruction : Prop :=
  ∀ i : Instr, i.wf = true → decode (encode i) = .ok i

/-- The other direction: a bus frame that decodes is its instruction's encoding, and a command word is, but for the
fields its OP ignores (R71, R72, R86). -/
def Obligations.EncodeOfDecodeKeepsTheUsedFields : Prop :=
  (∀ (p : PortWord) (i : Instr), p.format ≠ .cmd32 → decode p = .ok i → encode i = p) ∧
  (∀ (w : Word) (i : Instr), decode (.cmd32 w) = .ok i →
    encode i = .cmd32 (w &&&
      (if opField w = 1 ∨ opField w = 3 ∨ opField w = 8 then 0x0000FF0F#32
       else if opField w = 5 then 0xFFFF000F#32 else 0x0000000F#32)))

/-- R74: bits 7:4 always, CHAN outside FRAME, READ and SAMPLE, and VALUE outside TRACK_PUSH change neither what a command
word decodes to nor what the block does with it, in every phase of the command. -/
def Obligations.IgnoredCommandFieldsHaveNoEffect : Prop :=
  (∀ w m : Word, m &&& 0x0000000F#32 = 0 →
    (opField w = 1 ∨ opField w = 3 ∨ opField w = 8 → m &&& 0x0000FF00#32 = 0) →
    (opField w = 5 → m &&& 0xFFFF0000#32 = 0) →
    decode (.cmd32 (w ^^^ m)) = decode (.cmd32 w)) ∧
  (∀ (s t : State) (m : Word), BlockInv s → m &&& 0x0000000F#32 = 0 →
    (opField s.cmd = 1 ∨ opField s.cmd = 3 ∨ opField s.cmd = 8 → m &&& 0x0000FF00#32 = 0) →
    (opField s.cmd = 5 → m &&& 0xFFFF0000#32 = 0) →
    blockTurn s = .next t →
    blockTurn { s with cmd := s.cmd ^^^ m } = .next { t with cmd := s.cmd ^^^ m }) ∧
  decode (.cmd32 0xFFFFFF00#32) = .ok .nop ∧ decode (.cmd32 0x00000000#32) = .ok .nop

/-- R79: an outbound frame decodes exactly if it is one of the eight values, and every frame a step of the machine puts
on the bus port is one of them. -/
def Obligations.EmittedFramesAreTheEight : Prop :=
  (∀ b0 b1 b2 : Byte, (∃ i, decode (.adcTx24 b0 b1 b2) = .ok i) ↔
    pack24 b0 b1 b2 ∈ [0x018000#24, 0x019000, 0x01A000, 0x01B000, 0x01C000, 0x01D000, 0x01E000, 0x01F000]) ∧
  (∀ (s t : State) (b0 b1 b2 : Byte), step s = .next t → t.bus = .issued b0 b1 b2 → s.bus ≠ .issued b0 b1 b2 →
    ∃ ch : Fin 8, pack24 b0 b1 b2 = 0x018000#24 ||| (BitVec.ofNat 24 ch.val <<< 12))

/-! ## A step runs the decoded word -/

/-- The execute step (R181): when it is the block's turn in EXEC and CMD decodes to i, the step is exec of i on the state
whose turn has been taken from the schedule. -/
def Obligations.StepRunsTheAcceptedCommand : Prop :=
  ∀ (s : State) (i : Instr), nextAgent s = .block → s.phase = .exec → decode (.cmd32 s.cmd) = .ok i →
    step s = exec i (afterTurn s)

/-- The bus agent's step (R108): when it is its turn and the pending frame decodes to i, the step is exec of i. -/
def Obligations.StepRunsThePendingFrame : Prop :=
  ∀ (s : State) (i : Instr) (b0 b1 b2 : Byte), nextAgent s = .bus → s.pending = true → s.bus = .issued b0 b1 b2 →
    decode (.adcTx24 b0 b1 b2) = .ok i → step s = exec i (afterTurn s)

/-- The step that consumes a response (R181): when it is the waiting block's turn and the bus has answered OK, the step
is exec of the inbound frame's instruction. -/
def Obligations.StepConsumesTheResponse : Prop :=
  ∀ (s : State) (i : Instr) (b0 b1 b2 : Byte), nextAgent s = .block → waiting s.phase →
    s.bus = .answered (.ok b0 b1 b2) → decode (.adcRx24 b0 b1 b2) = .ok i → step s = exec i (afterTurn s)

/-- R181: the block has no step in IDLE, nor in READ_WAIT or SAMPLE_WAIT before the bus has answered. That no step is an
unchanged state, but for the turn, is the model's choice (log 14). -/
def Obligations.BlockWithoutARowTakesNoStep : Prop :=
  ∀ s : State, nextAgent s = .block →
    (s.phase = .idle ∨ (waiting s.phase ∧ ∀ a, s.bus ≠ .answered a)) → step s = .next (afterTurn s)

/-! ## Control -/

/-- R172: every word with bits 3:0 = 0 encodes NOP; NOP completes with NONE and leaves every register but STATUS
unchanged; STATUS is 0x00000002 if DROPPED, EMPTY and NEG were 0. -/
def Obligations.NopOnlyCompletes : Prop :=
  (∀ w : Word, w.extractLsb' 0 4 = 0 ↔ decode (.cmd32 w) = .ok .nop) ∧
  (∀ s : State, ∃ t, exec .nop s = .next t ∧ Completed 0 s t ∧ OnlyRegsChange [.status] s t ∧
    (s.status.dropped = false → s.status.empty = false → s.status.neg = false →
      regValue t .status = 0x00000002#32))

/-- R73: an accepted word whose OP is 0x9 to 0xF completes with ILLEGAL_OP in the execute step, changing nothing but
STATUS (CMD holds the word since its acceptance); and no value of the other fields is illegal at decode. -/
def Obligations.ReservedOpsCompleteWithIllegalOp : Prop :=
  (∀ w : Word, ∃ i, decode (.cmd32 w) = .ok i) ∧
  (∀ s : State, nextAgent s = .block → s.phase = .exec → 9 ≤ opField s.cmd →
    ∃ t, step s = .next t ∧ Completed 1 (afterTurn s) t ∧ OnlyRegsChange [.status] (afterTurn s) t) ∧
  (∀ (s : State) (i : Instr), i ∈ [.reserved9, .reservedA, .reservedB, .reservedC, .reservedD, .reservedE, .reservedF] →
    ∃ t, exec i s = .next t ∧ Completed 1 s t ∧ OnlyRegsChange [.status] s t)

/-! ## Framer and decoder -/

/-- R78: the configuration byte by both formulas, and its eight values. -/
def Obligations.ConfigurationByteBothFormulas : Prop :=
  (∀ ch : Fin 8, (configByte ch).toNat = (0b1000 ||| ch.val) <<< 4 ∧ (configByte ch).toNat = (8 + ch.val) <<< 4) ∧
  (List.finRange 8).map configByte = [0x80#8, 0x90, 0xA0, 0xB0, 0xC0, 0xD0, 0xE0, 0xF0]

/-- R102: the range of `Decode`, where it reaches its ends, and what it does not depend on. -/
def Obligations.DecodedSampleRange : Prop :=
  ∀ rx0 rx1 rx2 : Byte,
    (decodeSample rx0 rx1 rx2).toNat ≤ 1023 ∧
    ((decodeSample rx0 rx1 rx2).toNat = 1023 ↔ rx1.extractLsb' 0 2 = 0b11#2 ∧ rx2 = 0xFF#8) ∧
    ((decodeSample rx0 rx1 rx2).toNat = 0 ↔ rx1.extractLsb' 0 2 = 0b00#2 ∧ rx2 = 0x00#8) ∧
    (∀ rx0' rx1' : Byte, rx1'.extractLsb' 0 2 = rx1.extractLsb' 0 2 →
      decodeSample rx0' rx1' rx2 = decodeSample rx0 rx1 rx2)

/-- R101: the sample by the source's two formulas. -/
def Obligations.DecodeFormula : Prop :=
  ∀ rx0 rx1 rx2 : Byte,
    (decodeSample rx0 rx1 rx2).toNat = ((rx1.toNat &&& 0x03) <<< 8) ||| rx2.toNat ∧
    (decodeSample rx0 rx1 rx2).toNat = ((rx1.toNat &&& 3) <<< 8) + rx2.toNat

/-- FRAME on a valid channel (R103): TX takes the frame, the command completes with NONE, and nothing else changes. -/
def Obligations.FrameBuildsTheChannelSelectFrame : Prop :=
  ∀ (s : State) (ch : Nat), ch ≤ 7 →
    ∃ t, exec (.frame ch) s = .next t ∧ regValue t .tx = 0x018000#32 ||| (BitVec.ofNat 32 ch <<< 12) ∧
      Completed 0 s t ∧ OnlyRegsChange [.tx, .status] s t

/-- DECODE (R104): RAW takes the low two bits of RX byte 1 and, below them, RX byte 2; the command completes with NONE,
and nothing else changes. -/
def Obligations.DecodeTakesTheSampleInRx : Prop :=
  decode (.cmd32 0x00000002#32) = .ok .decode ∧
  ∀ s : State,
    ∃ t, exec .decode s = .next t ∧
      (regValue t .raw).toNat = (regValue s .rx).toNat / 256 % 4 * 256 + (regValue s .rx).toNat % 256 ∧
      Completed 0 s t ∧ OnlyRegsChange [.raw, .status] s t

/-- READ, issue part (R105): with no frame pending and a valid channel, TX takes the frame, the bus port holds its three
bytes, PENDING rises, the phase is READ_WAIT, and STATUS and every other register are unchanged. -/
def Obligations.ReadIssuesTheFrame : Prop :=
  ∀ (s : State) (ch : Fin 8), s.pending = false →
    ∃ t, exec (.read ch.val) s = .next t ∧ regValue t .tx = 0x018000#32 ||| (BitVec.ofNat 32 ch.val <<< 12) ∧
      t.bus = .issued 0x01#8 ((0b1000#8 ||| BitVec.ofNat 8 ch.val) <<< 4) 0x00#8 ∧ t.pending = true ∧
      t.phase = .readWait ∧ OnlyRegsAndBusChange [.tx] s t

/-- READ, completion on OK (R106): RX and RAW take the response, PENDING falls, the command completes with NONE, and
nothing else changes. -/
def Obligations.ReadCompletesOnOk : Prop :=
  ∀ (s : State) (rx0 rx1 rx2 : Byte), s.phase = .readWait →
    ∃ t, exec (.adcResult rx0 rx1 rx2) s = .next t ∧
      (regValue t .rx).toNat = rx0.toNat * 65536 + rx1.toNat * 256 + rx2.toNat ∧
      (regValue t .raw).toNat = ((rx1.toNat &&& 3) <<< 8) ||| rx2.toNat ∧ (regValue t .raw).toNat ≤ 1023 ∧
      t.pending = false ∧ t.bus = .quiet ∧
      Completed 0 s t ∧ OnlyRegsAndBusChange [.rx, .raw, .status] s t

/-- READ, completion on FAIL (R107): the block's step consumes it, completes with TRANSFER_FAILURE and changes nothing
but STATUS; TX keeps the frame that was issued, and no frame is issued again (R110). -/
def Obligations.ReadFailsOnFail : Prop :=
  ∀ s : State, nextAgent s = .block → s.phase = .readWait → s.bus = .answered .fail →
    ∃ t, step s = .next t ∧ t.pending = false ∧ t.bus = .quiet ∧
      Completed 3 (afterTurn s) t ∧ OnlyRegsAndBusChange [.status] (afterTurn s) t

/-- R111: a channel is valid exactly up to 7; FRAME, READ and SAMPLE on a channel above 7 complete with INVALID_CHANNEL,
no frame is built, TX is not written and no transfer is issued. -/
def Obligations.InvalidChannelIsRejected : Prop :=
  (∀ ch : Nat, (∃ c, toChannel ch = some c ∧ c.val = ch) ↔ ch ≤ 7) ∧
  (∀ (s : State) (ch : Nat), 7 < ch → ∀ i ∈ [Instr.frame ch, .read ch, .sample ch],
    ∃ t, exec i s = .next t ∧ Completed 2 s t ∧ OnlyRegsChange [.status] s t)

/-! ## Tracker -/

/-- R131, R134: TRACK_CLEAR gives READ_MIN = 1024, READ_MAX = 0 and COUNT = 0 and completes with NONE; EMPTY, NEG, P2P,
RESULT and everything else are unchanged. -/
def Obligations.TrackClearRestoresTheSentinels : Prop :=
  decode (.cmd32 0x00000004#32) = .ok .trackClear ∧
  ∀ s : State, ∃ t, exec .trackClear s = .next t ∧
    regValue t .readMin = 1024 ∧ regValue t .readMax = 0 ∧ regValue t .count = 0 ∧
    Completed 0 s t ∧ OnlyRegsChange [.readMin, .readMax, .count, .status] s t

/-- R132, with R11: TRACK_PUSH in SENTINEL mode. A value above READ_MAX raises it and is not tested against READ_MIN; else
a value below READ_MIN lowers it; COUNT grows by one and saturates. -/
def Obligations.TrackPushInSentinelMode : Prop :=
  ∀ (s : State) (v : Nat), v ≤ 1023 → s.trkMode = .sentinel →
    ∃ t, exec (.trackPush v) s = .next t ∧
      (if (regValue s .readMax).toNat < v then
          regValue t .readMax = BitVec.ofNat 32 v ∧ regValue t .readMin = regValue s .readMin
        else if v < (regValue s .readMin).toNat then
          regValue t .readMax = regValue s .readMax ∧ regValue t .readMin = BitVec.ofNat 32 v
        else regValue t .readMax = regValue s .readMax ∧ regValue t .readMin = regValue s .readMin) ∧
      (regValue t .count).toNat = min ((regValue s .count).toNat + 1) (2 ^ 32 - 1) ∧
      Completed 0 s t ∧ OnlyRegsChange [.readMin, .readMax, .count, .status] s t

/-- R133, with R11: TRACK_PUSH in FIRST_SAMPLE mode. The first sample sets both bounds; after it the else-if of R132
applies. -/
def Obligations.TrackPushInFirstSampleMode : Prop :=
  ∀ (s : State) (v : Nat), v ≤ 1023 → s.trkMode = .firstSample →
    ∃ t, exec (.trackPush v) s = .next t ∧
      (if regValue s .count = 0 then
          regValue t .readMax = BitVec.ofNat 32 v ∧ regValue t .readMin = BitVec.ofNat 32 v
        else if (regValue s .readMax).toNat < v then
          regValue t .readMax = BitVec.ofNat 32 v ∧ regValue t .readMin = regValue s .readMin
        else if v < (regValue s .readMin).toNat then
          regValue t .readMax = regValue s .readMax ∧ regValue t .readMin = BitVec.ofNat 32 v
        else regValue t .readMax = regValue s .readMax ∧ regValue t .readMin = regValue s .readMin) ∧
      (regValue t .count).toNat = min ((regValue s .count).toNat + 1) (2 ^ 32 - 1) ∧
      Completed 0 s t ∧ OnlyRegsChange [.readMin, .readMax, .count, .status] s t

/-- TRACK_PUSH of a value above 1023 completes with INVALID_SAMPLE and changes nothing but STATUS (R135). -/
def Obligations.TrackPushRejectsALargeValue : Prop :=
  ∀ (s : State) (v : Nat), 1023 < v →
    ∃ t, exec (.trackPush v) s = .next t ∧ Completed 4 s t ∧ OnlyRegsChange [.status] s t

/-- R136, R137: PEAK. An empty window gives P2P = 0, EMPTY = 1 and NEG = 0; else P2P is READ_MAX - READ_MIN, unclamped, with
EMPTY = 0 and NEG its sign. The tracker is not cleared. -/
def Obligations.PeakReportsTheSpan : Prop :=
  decode (.cmd32 0x00000006#32) = .ok .peak ∧
  ∀ s : State, ∃ t, exec .peak s = .next t ∧
    (if regValue s .count = 0 then
        regValue t .p2p = 0 ∧ t.status.empty = true ∧ t.status.neg = false
      else
        (regValue t .p2p).toInt = ((regValue s .readMax).toNat : Int) - (regValue s .readMin).toNat ∧
        t.status.empty = false ∧ (t.status.neg = true ↔ (regValue t .p2p).toInt < 0)) ∧
    CompletedPeak 0 s t ∧ OnlyRegsChange [.p2p, .status] s t

/-- R138: what SENTINEL mode reports of a sequence of values pushed onto a cleared tracker, clauses (a) to (g). -/
def Obligations.SentinelModeLaws : Prop :=
  ∀ vs : List (BitVec 10), vs ≠ [] →
    let t := pushes .sentinel vs trackClear
    let n := vs.length
    let p := i32 (peakP2p t)
    t.readMax.toNat = maxOfFirst vs n ∧
    (t.readMin.toNat ≤ 1024 ∧ (∀ k < n, ¬ isRecord vs k → t.readMin.toNat ≤ valueAt vs k) ∧
      (t.readMin.toNat = 1024 ∨ ∃ k < n, ¬ isRecord vs k ∧ t.readMin.toNat = valueAt vs k)) ∧
    ((t.readMin.toNat = 1024 ↔ ∀ k < n, isRecord vs k) ∧
      ((∀ k < n, isRecord vs k) ↔ 0 < valueAt vs 0 ∧ ∀ k, k + 1 < n → valueAt vs k < valueAt vs (k + 1))) ∧
    ((∀ k < n, isRecord vs k) →
      p = (valueAt vs (n - 1) : Int) - 1024 ∧ -1023 ≤ p ∧ p ≤ -1 ∧ peakNeg t = true) ∧
    ((∃ k < n, ¬ isRecord vs k) → 0 ≤ p ∧ p ≤ (maxOfFirst vs n : Int) - minOfAll vs) ∧
    i32 (peakP2p (pushes .sentinel [5, 7, 6] trackClear)) = 1 ∧
    (n = 1 → p = if valueAt vs 0 = 0 then 0 else (valueAt vs 0 : Int) - 1024) ∧
    (2 ≤ n → (∀ k < n, valueAt vs k = valueAt vs 0) → p = 0)

/-- R139: what FIRST_SAMPLE mode reports of a sequence of values pushed onto a cleared tracker. -/
def Obligations.FirstSampleModeLaws : Prop :=
  ∀ vs : List (BitVec 10), vs ≠ [] →
    let t := pushes .firstSample vs trackClear
    let p := i32 (peakP2p t)
    t.readMin.toNat = minOfAll vs ∧ t.readMax.toNat = maxOfFirst vs vs.length ∧
    t.readMin.toNat ≤ t.readMax.toNat ∧
    p = (maxOfFirst vs vs.length : Int) - minOfAll vs ∧ 0 ≤ p ∧ p ≤ 1023 ∧ peakNeg t = false ∧
    ((∀ k < vs.length, valueAt vs k = valueAt vs 0) → p = 0)

/-! ## Rescaler -/

/-- R11: the saturating increment. -/
def Obligations.SaturatingIncrement : Prop :=
  ∀ n : Word, (satInc32 n).toNat = if n.toNat = 2 ^ 32 - 1 then n.toNat else n.toNat + 1

/-- R10: `ceil_div(a, b)` is the least integer at or above the exact quotient, and the rule's examples. -/
def Obligations.CeilDivIsTheLeastIntegerAbove : Prop :=
  (∀ a b : Int, b ≠ 0 → IsLeast {c : Int | (a : Rat) / (b : Rat) ≤ (c : Rat)} (ceilDiv a b)) ∧
  ceilDiv 1 3 = 1 ∧ ceilDiv (-1) 3 = 0 ∧ ceilDiv (-4) 3 = -1 ∧ ceilDiv 3 3 = 1 ∧ ceilDiv 1 (-3) = 0

/-- R150: `Rescale` is `dl + ceil_div((value - sl) * (dh - dl), sh - sl)`, and that is the exact ceiling of the source's
formula over the rationals. -/
def Obligations.RescaleIsTheExactCeiling : Prop :=
  ∀ value sl sh dl dh : Int, sh ≠ sl →
    rescale value sl sh dl dh = dl + ceilDiv ((value - sl) * (dh - dl)) (sh - sl) ∧
    rescale value sl sh dl dh =
      ⌈((value : Rat) - sl) / ((sh : Rat) - sl) * ((dh : Rat) - dl) + dl⌉

/-- R153: the laws of `Rescale`, (a) to (d). -/
def Obligations.RescaleLaws : Prop :=
  ∀ sl sh dl dh : Int, sh ≠ sl →
    (∀ value q : Int, (value - sl) * (dh - dl) = q * (sh - sl) → rescale value sl sh dl dh = dl + q) ∧
    (rescale sl sl sh dl dh = dl ∧ rescale sh sl sh dl dh = dh ∧
      rescale 0 0 1024 0 100 = 0 ∧ rescale 1024 0 1024 0 100 = 100) ∧
    (0 ≤ ((dh : Rat) - dl) / ((sh : Rat) - sl) →
      ∀ v w : Int, v ≤ w → rescale v sl sh dl dh ≤ rescale w sl sh dl dh) ∧
    (∀ value : Int,
      (dl : Rat) + ((value : Rat) - sl) * ((dh : Rat) - dl) / ((sh : Rat) - sl) ≤ rescale value sl sh dl dh ∧
      (rescale value sl sh dl dh : Rat) < (dl : Rat) + ((value : Rat) - sl) * ((dh : Rat) - dl) / ((sh : Rat) - sl) + 1)

/-- R155: the sampler's instance and its range. -/
def Obligations.SamplerRescaleNeverOverflows : Prop :=
  (∀ p s : Int, rescaleSample p s = ceilDiv (p * s) 1024) ∧
  (∀ p s : Int, -1024 ≤ p → p ≤ 1023 → 0 ≤ s → s ≤ 2 ^ 31 - 1 →
    fitsI32 (rescaleSample p s) = true ∧ i32 (ofI32 (rescaleSample p s)) = rescaleSample p s ∧
    (0 ≤ p → 0 ≤ rescaleSample p s ∧ rescaleSample p s ≤ s) ∧
    (-1023 ≤ p → p ≤ -1 → ceilDiv (-1023 * s) 1024 ≤ rescaleSample p s ∧ rescaleSample p s ≤ 0 ∧
      (1 ≤ s → -s + 1 ≤ ceilDiv (-1023 * s) 1024))) ∧
  rescaleSample 1023 100 = 100

/-- R152: RESCALE. Equal source bounds complete with DIV_ZERO, a result outside i32 with OVERFLOW, both leaving RESULT;
else RESULT takes the exact result and the command completes with NONE. Nothing else changes. -/
def Obligations.RescaleCommandOutcomes : Prop :=
  decode (.cmd32 0x00000007#32) = .ok .rescale ∧
  ∀ s : State,
    let r := rescale (i32 (regValue s .rsValue)) (i32 (regValue s .rsSrcLo)) (i32 (regValue s .rsSrcHi))
      (i32 (regValue s .rsDstLo)) (i32 (regValue s .rsDstHi))
    ∃ t, exec .rescale s = .next t ∧
      (if regValue s .rsSrcHi = regValue s .rsSrcLo then Completed 6 s t ∧ OnlyRegsChange [.status] s t
       else if r < -2 ^ 31 ∨ 2 ^ 31 - 1 < r then Completed 7 s t ∧ OnlyRegsChange [.status] s t
       else (regValue t .result).toInt = r ∧ Completed 0 s t ∧ OnlyRegsChange [.result, .status] s t)

/-! ## Sampler -/

/-- R173: SAMPLE's start on a valid channel. A negative SCALE_MAX completes with INVALID_SCALE and changes nothing else;
else the tracker is cleared, T0 takes now_ms, the phase is SAMPLE_CHECK, and no flag and no other register changes. -/
def Obligations.SampleStartsTheWindow : Prop :=
  ∀ (s : State) (ch : Nat), ch ≤ 7 →
    ∃ t, exec (.sample ch) s = .next t ∧
      (if i32 (regValue s .scaleMax) < 0 then Completed 5 s t ∧ OnlyRegsChange [.status] s t
       else t.tracker = { readMin := 1024, readMax := 0, count := 0 } ∧ t.t0 = s.env.clock ∧ t.phase = .sampleCheck ∧
        (∀ r, r ∉ [Reg.readMin, .readMax, .count] → regValue t r = regValue s r) ∧
        t.pending = s.pending ∧ t.bus = s.bus ∧ t.env = s.env)

/-- The window check inside the window (R174): the frame of CMD's channel is issued and the phase is SAMPLE_WAIT. -/
def Obligations.WindowCheckIssuesAFrame : Prop :=
  ∀ s : State, nextAgent s = .block → s.phase = .sampleCheck → s.pending = false → chanField s.cmd ≤ 7 →
    (s.env.clock : Int) - s.t0 < (regValue s .windowMs).toNat →
    ∃ t, step s = .next t ∧ regValue t .tx = 0x018000#32 ||| (BitVec.ofNat 32 (chanField s.cmd) <<< 12) ∧
      t.bus = .issued 0x01#8 ((0b1000#8 ||| BitVec.ofNat 8 (chanField s.cmd)) <<< 4) 0x00#8 ∧ t.pending = true ∧
      t.phase = .sampleWait ∧ OnlyRegsAndBusChange [.tx] (afterTurn s) t

/-- SAMPLE's finish (R177): outside the window the check computes P2P, EMPTY and NEG as `Peak` does, RESULT from P2P and
SCALE_MAX, and completes with NONE. -/
def Obligations.WindowCheckFinishes : Prop :=
  ∀ s : State, nextAgent s = .block → s.phase = .sampleCheck →
    ¬ ((s.env.clock : Int) - s.t0 < (regValue s .windowMs).toNat) →
    ∃ t, step s = .next t ∧ regValue t .p2p = peakP2p s.tracker ∧
      t.status.empty = peakEmpty s.tracker ∧ t.status.neg = peakNeg s.tracker ∧
      regValue t .result = ofI32 (ceilDiv ((regValue t .p2p).toInt * (regValue s .scaleMax).toInt) 1024) ∧
      CompletedPeak 0 (afterTurn s) t ∧ OnlyRegsChange [.p2p, .result, .status] (afterTurn s) t

/-- R175: an OK response while SAMPLE waits. RX and RAW take it, the tracker is pushed once in the mode of CTRL, PENDING
falls and the loop goes on. -/
def Obligations.SamplePushesTheResponse : Prop :=
  ∀ (s : State) (rx0 rx1 rx2 : Byte), s.phase = .sampleWait →
    ∃ t, exec (.adcResult rx0 rx1 rx2) s = .next t ∧
      (regValue t .rx).toNat = rx0.toNat * 65536 + rx1.toNat * 256 + rx2.toNat ∧
      (regValue t .raw).toNat = ((rx1.toNat &&& 3) <<< 8) ||| rx2.toNat ∧
      t.tracker = trackPush s.trkMode (BitVec.ofNat 10 (((rx1.toNat &&& 3) <<< 8) ||| rx2.toNat)) s.tracker ∧
      t.pending = false ∧ t.bus = .quiet ∧ t.phase = .sampleCheck ∧
      OnlyRegsAndBusChange [.rx, .raw, .readMin, .readMax, .count] s t

/-- R176: a FAIL response while SAMPLE waits completes with TRANSFER_FAILURE; P2P, RESULT, EMPTY and NEG are not written,
and the tracker, TX, RX and RAW keep their partial values. -/
def Obligations.SampleAbortsOnFail : Prop :=
  ∀ s : State, nextAgent s = .block → s.phase = .sampleWait → s.bus = .answered .fail →
    ∃ t, step s = .next t ∧ t.pending = false ∧ t.bus = .quiet ∧
      Completed 3 (afterTurn s) t ∧ OnlyRegsAndBusChange [.status] (afterTurn s) t

/-- R178: with WINDOW_MS = 0, SAMPLE on a valid channel and scale issues no frame and finishes in the block's second step
with COUNT = 0, P2P = 0, EMPTY = 1, NEG = 0, RESULT = 0 and ERR = NONE; TX, RX and RAW are unchanged. -/
def Obligations.ZeroWindowReadsNothing : Prop :=
  ∀ (s : State) (ch : Nat) (rest : List Agent), s.phase = .exec → decode (.cmd32 s.cmd) = .ok (.sample ch) → ch ≤ 7 →
    s.windowMs = 0 → 0 ≤ i32 s.scaleMax → s.env.schedule = .block :: .block :: rest →
    ∃ t, run 2 s = .next t ∧ t.phase = .idle ∧ t.pending = s.pending ∧ t.bus = s.bus ∧
      t.tracker.count = 0 ∧ t.p2p = 0 ∧ t.status.empty = true ∧ t.status.neg = false ∧ t.result = 0 ∧
      t.status.err = 0 ∧ t.status.done = true ∧ t.status.busy = false ∧ t.tx = s.tx ∧ t.rx = s.rx ∧ t.raw = s.raw

/-- R180: the end state of a SAMPLE whose reads all answer. From the execute step, with any reads, any time before each
check that stays inside the window, and a last tick that ends it, the run ends idle with the tracker, the data path,
P2P, EMPTY, NEG and RESULT of that rule. -/
def Obligations.SampleEndState : Prop :=
  ∀ (s : State) (ch : Fin 8) (reads : List SampleRead) (lastTick : Nat) (turns : List Agent) (answers : List BusAnswer)
    (ticks : List Nat),
    s.phase = .exec → decode (.cmd32 s.cmd) = .ok (.sample ch.val) → 0 ≤ i32 s.scaleMax → s.pending = false →
    s.env.schedule = .block :: (readTurns reads ++ (.timebase :: .block :: turns)) →
    s.env.busQueue = reads.map (fun r => .ok r.rx0 r.rx1 r.rx2) ++ answers →
    s.env.tickQueue = reads.map SampleRead.tick ++ lastTick :: ticks →
    (reads ≠ [] → timeOf reads < u32 s.windowMs) → u32 s.windowMs ≤ timeOf reads + lastTick →
    let vs := samplesOf reads
    ∃ t, run (4 * reads.length + 3) s = .next t ∧
      t.tracker = pushes s.trkMode vs { readMin := 1024, readMax := 0, count := 0 } ∧
      t.tracker.count.toNat = min reads.length (2 ^ 32 - 1) ∧
      (∀ r, reads.getLast? = some r →
        t.tx = 0x018000#24 ||| (BitVec.ofNat 24 ch.val <<< 12) ∧
        t.rx.toNat = r.rx0.toNat * 65536 + r.rx1.toNat * 256 + r.rx2.toNat ∧
        some t.raw = vs.getLast?) ∧
      (reads = [] → t.tx = s.tx ∧ t.rx = s.rx ∧ t.raw = s.raw) ∧
      t.p2p = peakP2p t.tracker ∧ t.status.empty = peakEmpty t.tracker ∧ t.status.neg = peakNeg t.tracker ∧
      i32 t.result = ceilDiv (i32 t.p2p * i32 s.scaleMax) 1024 ∧
      t.status.err = 0 ∧ t.status.done = true ∧ t.status.busy = false ∧ t.phase = .idle ∧ t.pending = false ∧
      t.trkMode = s.trkMode ∧ t.windowMs = s.windowMs ∧ t.scaleMax = s.scaleMax ∧ t.cmd = s.cmd ∧ t.rs = s.rs ∧
      t.env.schedule = turns

/-- Once the window is over, a SAMPLE ends as soon as the bus has a turn and the block two after it (R212 read on finite
runs: the window is over and the transfer answers). Whatever the host and the timebase do between, some moment of the
run is idle. -/
def Obligations.SampleEndsAfterItsWindow : Prop :=
  ∀ (s : State) (turns rest : List Agent), BlockInv s → sampling s.phase → u32 s.windowMs + s.t0 ≤ s.env.clock →
    s.env.schedule = turns ++ rest → Agent.platform ∉ turns → [Agent.bus, .block, .block].Sublist turns →
    ∃ k ≤ turns.length, ∃ t, run k s = .next t ∧ t.phase = .idle ∧ t.status.busy = false

/-! ## Bus -/

/-- R108: while a frame is pending and not yet answered the bus agent delivers one answer, the next of the queue and, past
its end, a free value; each of the eight frames completes so, and nothing of the block changes. With no frame pending, or
one answered already, it takes no step, which the model makes an unchanged state (log 6). -/
def Obligations.BusAnswersThePendingFrameOnce : Prop :=
  ∀ (s : State) (i : Instr),
    i ∈ [.adcSeCh0, .adcSeCh1, .adcSeCh2, .adcSeCh3, .adcSeCh4, .adcSeCh5, .adcSeCh6, .adcSeCh7] →
    (∀ b0 b1 b2 : Byte, s.pending = true → s.bus = .issued b0 b1 b2 →
      ∃ t a, exec i s = .next t ∧ t.bus = .answered a ∧
        (∀ a' rest, s.env.busQueue = a' :: rest → a = a' ∧ t.env.busQueue = rest ∧ t.env.draws = s.env.draws) ∧
        (s.env.busQueue = [] → t.env.busQueue = [] ∧ t.env.draws = s.env.draws + 1) ∧
        (∀ r, regValue t r = regValue s r) ∧ t.phase = s.phase ∧ t.pending = true ∧ t.t0 = s.t0 ∧
        t.env.clock = s.env.clock ∧ t.env.schedule = s.env.schedule ∧ t.env.hostQueue = s.env.hostQueue ∧
        t.env.tickQueue = s.env.tickQueue ∧ t.env.readData = s.env.readData) ∧
    (s.pending = false ∨ (∀ b0 b1 b2, s.bus ≠ .issued b0 b1 b2) → exec i s = .next s)

/-- R213: while the bus does not answer, no run of the other agents, however long, ends the wait: the phase, BUSY, PENDING
and the frame on the bus stay. Only the bus or reset would end it. -/
def Obligations.HangLastsUntilAnswerOrReset : Prop :=
  ∀ (s : State) (turns rest : List Agent) (b0 b1 b2 : Byte), waiting s.phase → s.status.busy = true → s.pending = true →
    s.bus = .issued b0 b1 b2 → s.env.schedule = turns ++ rest → Agent.bus ∉ turns → Agent.platform ∉ turns →
    ∃ t, run turns.length s = .next t ∧ t.phase = s.phase ∧ t.status.busy = true ∧ t.pending = true ∧
      t.bus = .issued b0 b1 b2

/-! ## Host port -/

/-- R51: what a host read returns, at any time: 0 for an unmapped index, the register's bits for a mapped one with the
hardwired bits 0; and no side effect on the block. -/
def Obligations.HostReadReturnsTheRegister : Prop :=
  ∀ s : State,
    (∀ i : BitVec 8, 18 ≤ i.toNat → hostRead i s = 0) ∧
    (hostRead 0 s = if s.trkMode = .firstSample then 1 else 0) ∧
    ((hostRead 1 s).getLsbD 0 = s.status.busy ∧ (hostRead 1 s).getLsbD 1 = s.status.done ∧
      (hostRead 1 s).getLsbD 2 = s.status.empty ∧ (hostRead 1 s).getLsbD 3 = s.status.neg ∧
      (hostRead 1 s).getLsbD 4 = s.status.dropped ∧ (hostRead 1 s).extractLsb' 8 4 = s.status.err ∧
      hostRead 1 s &&& 0xFFFFF0E0#32 = 0) ∧
    hostRead 2 s = s.cmd ∧ hostRead 3 s = s.windowMs ∧ hostRead 4 s = s.scaleMax ∧
    (hostRead 5 s).toNat = s.tx.toNat ∧ (hostRead 6 s).toNat = s.rx.toNat ∧ (hostRead 7 s).toNat = s.raw.toNat ∧
    (hostRead 8 s).toNat = s.tracker.readMin.toNat ∧ (hostRead 9 s).toNat = s.tracker.readMax.toNat ∧
    hostRead 10 s = s.tracker.count ∧ hostRead 11 s = s.p2p ∧ hostRead 12 s = s.result ∧
    hostRead 13 s = s.rs.value ∧ hostRead 14 s = s.rs.srcLo ∧ hostRead 15 s = s.rs.srcHi ∧
    hostRead 16 s = s.rs.dstLo ∧ hostRead 17 s = s.rs.dstHi ∧
    (∀ i : BitVec 8, transact (.read i) s = { s with env := { s.env with readData := some (hostRead i s) } })

/-- R52: the cascade of a host write, index by index. -/
def Obligations.HostWriteCascade : Prop :=
  ∀ (s : State) (i : BitVec 8) (v : Word),
    (i = 1 → hostWrite i v s = { s with status := { s.status with dropped := s.status.dropped && !v.getLsbD 4 } }) ∧
    (i.toNat ∈ [5, 7, 8, 9, 10, 11, 12] ∨ 18 ≤ i.toNat → hostWrite i v s = s) ∧
    (i.toNat ∈ [0, 2, 3, 4, 6, 13, 14, 15, 16, 17] → s.status.busy = true →
      hostWrite i v s = { s with status := { s.status with dropped := true } }) ∧
    (s.status.busy = false →
      (i = 0 → hostRead 0 (hostWrite i v s) = v &&& 1 ∧ OnlyRegsChange [.ctrl] s (hostWrite i v s)) ∧
      (i = 2 → hostWrite i v s =
        { s with cmd := v, status := { s.status with busy := true, done := false }, phase := .exec }) ∧
      (i = 6 → hostRead 6 (hostWrite i v s) = v &&& 0x00FFFFFF#32 ∧ OnlyRegsChange [.rx] s (hostWrite i v s)) ∧
      (i.toNat ∈ [3, 4, 13, 14, 15, 16, 17] → hostRead i (hostWrite i v s) = v ∧
        (∀ j : BitVec 8, j ≠ i → hostRead j (hostWrite i v s) = hostRead j s) ∧ (hostWrite i v s).phase = s.phase ∧
        (hostWrite i v s).t0 = s.t0 ∧ (hostWrite i v s).pending = s.pending ∧ (hostWrite i v s).bus = s.bus ∧
        (hostWrite i v s).env = s.env))

/-- R53: repeating a host write while idle changes nothing more, for every index but CMD; and a CMD write is accepted
only once, the second write being dropped. -/
def Obligations.RepeatedWritesAreIdempotent : Prop :=
  (∀ (s : State) (i : BitVec 8) (v : Word), i ≠ 2 → hostWrite i v (hostWrite i v s) = hostWrite i v s) ∧
  (∀ (s : State) (v w : Word), s.status.busy = false →
    hostWrite 2 w (hostWrite 2 v s) = dropWrite (hostWrite 2 v s) ∧ (hostWrite 2 w (hostWrite 2 v s)).cmd = v)

/-- R207: a write to a writable register while busy changes nothing but DROPPED; DROPPED falls only by a host write of 1 to
STATUS bit 4 or by reset; and it does not affect the running command. -/
def Obligations.DroppedIsStickyAndHarmless : Prop :=
  (∀ (s : State) (i : BitVec 8) (v : Word), s.status.busy = true → i.toNat ∈ [0, 2, 3, 4, 6, 13, 14, 15, 16, 17] →
    hostWrite i v s = { s with status := { s.status with dropped := true } }) ∧
  (∀ s t : State, step s = .next t → s.status.dropped = true → t.status.dropped = false →
    nextAgent s = .platform ∨
    (nextAgent s = .host ∧
      ∃ v : Word, v.getLsbD 4 = true ∧
        (draw s.env.hostQueue Config.hostTransaction (afterTurn s).env.draws).1 = .write 1 v)) ∧
  (∀ (s t : State) (d : Bool), blockTurn s = .next t →
    blockTurn { s with status := { s.status with dropped := d } } =
      .next { t with status := { t.status with dropped := d } })

/-- R170: a write to CMD while idle, as the host's turn: the word is stored, BUSY rises, DONE falls, the phase is EXEC and
ERR, EMPTY, NEG and everything else wait. -/
def Obligations.CmdWriteStartsTheCommand : Prop :=
  ∀ (s : State) (w : Word) (rest : List HostTxn), nextAgent s = .host → s.status.busy = false →
    s.env.hostQueue = .write 2 w :: rest →
    ∃ t, step s = .next t ∧ regValue t .cmd = w ∧ t.status.busy = true ∧ t.status.done = false ∧
      t.status.err = s.status.err ∧ t.status.empty = s.status.empty ∧ t.status.neg = s.status.neg ∧
      t.status.dropped = s.status.dropped ∧ t.phase = .exec ∧ t.env.hostQueue = rest ∧
      (∀ r, r ∉ [Reg.cmd, .status] → regValue t r = regValue s r) ∧ t.t0 = s.t0 ∧ t.pending = s.pending ∧
      t.bus = s.bus

/-! ## Reset -/

/-- R41: the reset values, register by register, and the hidden state; and the hardwired bits read 0 in every state. -/
def Obligations.ResetValues : Prop :=
  (∀ r : Reg, regValue State.reset r = if r = .readMin then 1024 else 0) ∧
  (State.reset.phase = .idle ∧ State.reset.t0 = 0 ∧ State.reset.pending = false) ∧
  (∀ s : State,
    regValue s .ctrl &&& 0xFFFFFFFE#32 = 0 ∧ regValue s .status &&& 0xFFFFF0E0#32 = 0 ∧
    regValue s .tx &&& 0xFF000000#32 = 0 ∧ regValue s .rx &&& 0xFF000000#32 = 0 ∧
    regValue s .raw &&& 0xFFFFFC00#32 = 0 ∧ regValue s .readMin &&& 0xFFFFF800#32 = 0 ∧
    regValue s .readMax &&& 0xFFFFF800#32 = 0)

/-- R230: when reset is taken, at any time, every register takes its reset value, PHASE is IDLE, PENDING false and T0 0 in
one step, and a running command is abandoned without `complete`. That the outside of the block goes on is the model's
choice (log 12). -/
def Obligations.ResetFromAnyState : Prop :=
  ∀ s : State, nextAgent s = .platform →
    ∃ t, step s = .next t ∧ (∀ r : Reg, regValue t r = if r = .readMin then 1024 else 0) ∧ t.phase = .idle ∧
      t.pending = false ∧ t.t0 = 0 ∧ t.status.done = false ∧ t.status.err = 0 ∧ t.env = (afterTurn s).env

/-- R231: an inbound frame has no effect where the block does not wait (log 7), and after a reset the bus has nothing to
answer, so a response to a frame issued before it never reaches the block: whatever turns the bus, the block and the
timebase take, every register keeps its reset value and the block stays idle. -/
def Obligations.LateResponseIsDiscarded : Prop :=
  (∀ (s : State) (rx0 rx1 rx2 : Byte), ¬ waiting s.phase → exec (.adcResult rx0 rx1 rx2) s = .next s) ∧
  (∀ (s : State) (turns rest : List Agent), s.env.schedule = .platform :: (turns ++ rest) →
    (∀ a ∈ turns, a = .bus ∨ a = .block ∨ a = .timebase) →
    ∃ t, run (turns.length + 1) s = .next t ∧ (∀ r : Reg, regValue t r = if r = .readMin then 1024 else 0) ∧
      t.phase = .idle ∧ t.pending = false)

/-! ## Invariants -/

/-- The state after reset meets the invariant (R41, R42). -/
def Obligations.ResetMeetsTheRangeAndControlRules : Prop := BlockInv State.reset

/-- R42, from every state that meets it: a step of any agent keeps the ranges of that rule, with what the rules say of the
control. -/
def Obligations.EveryStepKeepsTheRangeAndControlRules : Prop :=
  ∀ s t : State, BlockInv s → step s = .next t → BlockInv t

/-- R200: an error never stops the block. From every state that meets the invariant the step answers a next state: no
fault, no refusal. -/
def Obligations.NoStepStopsTheMachine : Prop :=
  ∀ s : State, BlockInv s → ∃ t, step s = .next t

/-! ## Rules about the whole machine -/

/-- R63, R171: P2P, RESULT, EMPTY, NEG and ERR change only in the step that completes a command, or by reset. -/
def Obligations.MeasurementsChangeOnlyAtCompletion : Prop :=
  ∀ s t : State, step s = .next t → nextAgent s ≠ .platform →
    t.p2p ≠ s.p2p ∨ t.result ≠ s.result ∨ t.status.empty ≠ s.status.empty ∨ t.status.neg ≠ s.status.neg ∨
      t.status.err ≠ s.status.err →
    nextAgent s = .block ∧ s.phase ≠ .idle ∧ t.phase = .idle ∧ t.status.busy = false ∧ t.status.done = true

/-- R204: the step that completes a command with an error writes nothing but STATUS, the phase and the end of the
transfer: no register of the data path, the tracker or the results. -/
def Obligations.ErrorCompletionWritesOnlyStatus : Prop :=
  ∀ s t : State, step s = .next t → nextAgent s = .block → s.phase ≠ .idle → t.phase = .idle → t.status.err ≠ 0 →
    Completed t.status.err (afterTurn s) t ∧ OnlyRegsAndBusChange [.status] (afterTurn s) t

/-- While busy, no step but reset changes CMD, CTRL, WINDOW_MS, SCALE_MAX or the RS registers: the operands of a running
command stand (R24, R66, R140). -/
def Obligations.OperandsStandWhileBusy : Prop :=
  ∀ s t : State, step s = .next t → s.status.busy = true → nextAgent s ≠ .platform →
    t.cmd = s.cmd ∧ t.trkMode = s.trkMode ∧ t.windowMs = s.windowMs ∧ t.scaleMax = s.scaleMax ∧ t.rs = s.rs

/-- R211: now_ms never falls, whatever agent steps. -/
def Obligations.TimeNeverFalls : Prop :=
  ∀ s t : State, step s = .next t → s.env.clock ≤ t.env.clock

/-- R61: while a frame is pending no step puts another on the bus; a frame on the bus after such a step is the same
frame. -/
def Obligations.NoSecondFrameWhilePending : Prop :=
  ∀ (s t : State) (b0 b1 b2 : Byte), step s = .next t → s.pending = true → t.bus = .issued b0 b1 b2 →
    s.bus = .issued b0 b1 b2

/-- R40 for READ and SAMPLE: two states that agree on CTRL, CMD, WINDOW_MS, SCALE_MAX, the phase and everything outside
the block, and differ in any output that earlier commands left, take the same step while such a command runs; the steps
agree again, and where they complete the command they give the same code and the same results. -/
def Obligations.ReadAndSampleAreStateless : Prop :=
  ∀ s s' t : State, SameInputs s s' → s.phase ≠ .idle → opField s.cmd = 3 ∨ opField s.cmd = 8 →
    s.phase = .readWait ∧ opField s.cmd = 3 ∨ sampling s.phase ∧ opField s.cmd = 8 ∨ s.phase = .exec →
    nextAgent s = .block ∨ nextAgent s = .bus ∨ nextAgent s = .timebase → step s = .next t →
    ∃ t', step s' = .next t' ∧ SameInputs t t' ∧
      (t.phase = .idle → t'.status.err = t.status.err ∧ t'.status.busy = false ∧ t.status.busy = false ∧
        (t.status.err = 0 → opField s.cmd = 3 → t'.rx = t.rx ∧ t'.raw = t.raw) ∧
        (t.status.err = 0 → opField s.cmd = 8 → t'.p2p = t.p2p ∧ t'.result = t.result ∧ t'.tracker = t.tracker ∧
          t'.status.empty = t.status.empty ∧ t'.status.neg = t.status.neg))
end

