-- ==== Sys2Proof/Laws/State.lean ====
section
/-!
SUPPORT. One lemma per field per update: what each shared operation leaves in each field of the state.
-/

namespace Sys2Proof.Machine

/-! ### `accept` -/

@[simp] theorem accept_trkMode (v : Word) (s : State) : (accept v s).trkMode = s.trkMode := rfl
@[simp] theorem accept_status (v : Word) (s : State) :
    (accept v s).status = { s.status with busy := true, done := false } :=
  rfl
@[simp] theorem accept_cmd (v : Word) (s : State) : (accept v s).cmd = v := rfl
@[simp] theorem accept_windowMs (v : Word) (s : State) : (accept v s).windowMs = s.windowMs := rfl
@[simp] theorem accept_scaleMax (v : Word) (s : State) : (accept v s).scaleMax = s.scaleMax := rfl
@[simp] theorem accept_tx (v : Word) (s : State) : (accept v s).tx = s.tx := rfl
@[simp] theorem accept_rx (v : Word) (s : State) : (accept v s).rx = s.rx := rfl
@[simp] theorem accept_raw (v : Word) (s : State) : (accept v s).raw = s.raw := rfl
@[simp] theorem accept_tracker (v : Word) (s : State) : (accept v s).tracker = s.tracker := rfl
@[simp] theorem accept_p2p (v : Word) (s : State) : (accept v s).p2p = s.p2p := rfl
@[simp] theorem accept_result (v : Word) (s : State) : (accept v s).result = s.result := rfl
@[simp] theorem accept_rs (v : Word) (s : State) : (accept v s).rs = s.rs := rfl
@[simp] theorem accept_phase (v : Word) (s : State) : (accept v s).phase = .exec := rfl
@[simp] theorem accept_t0 (v : Word) (s : State) : (accept v s).t0 = s.t0 := rfl
@[simp] theorem accept_pending (v : Word) (s : State) : (accept v s).pending = s.pending := rfl
@[simp] theorem accept_bus (v : Word) (s : State) : (accept v s).bus = s.bus := rfl
@[simp] theorem accept_env (v : Word) (s : State) : (accept v s).env = s.env := rfl

/-! ### `complete` -/

@[simp] theorem complete_trkMode (e : Err) (s : State) : (complete e s).trkMode = s.trkMode := rfl
@[simp] theorem complete_status (e : Err) (s : State) :
    (complete e s).status = { s.status with err := errCode e, busy := false, done := true } :=
  rfl
@[simp] theorem complete_cmd (e : Err) (s : State) : (complete e s).cmd = s.cmd := rfl
@[simp] theorem complete_windowMs (e : Err) (s : State) : (complete e s).windowMs = s.windowMs := rfl
@[simp] theorem complete_scaleMax (e : Err) (s : State) : (complete e s).scaleMax = s.scaleMax := rfl
@[simp] theorem complete_tx (e : Err) (s : State) : (complete e s).tx = s.tx := rfl
@[simp] theorem complete_rx (e : Err) (s : State) : (complete e s).rx = s.rx := rfl
@[simp] theorem complete_raw (e : Err) (s : State) : (complete e s).raw = s.raw := rfl
@[simp] theorem complete_tracker (e : Err) (s : State) : (complete e s).tracker = s.tracker := rfl
@[simp] theorem complete_p2p (e : Err) (s : State) : (complete e s).p2p = s.p2p := rfl
@[simp] theorem complete_result (e : Err) (s : State) : (complete e s).result = s.result := rfl
@[simp] theorem complete_rs (e : Err) (s : State) : (complete e s).rs = s.rs := rfl
@[simp] theorem complete_phase (e : Err) (s : State) : (complete e s).phase = .idle := rfl
@[simp] theorem complete_t0 (e : Err) (s : State) : (complete e s).t0 = s.t0 := rfl
@[simp] theorem complete_pending (e : Err) (s : State) : (complete e s).pending = s.pending := rfl
@[simp] theorem complete_bus (e : Err) (s : State) : (complete e s).bus = s.bus := rfl
@[simp] theorem complete_env (e : Err) (s : State) : (complete e s).env = s.env := rfl

/-! ### `consume` -/

@[simp] theorem consume_trkMode (s : State) : (consume s).trkMode = s.trkMode := rfl
@[simp] theorem consume_status (s : State) : (consume s).status = s.status := rfl
@[simp] theorem consume_cmd (s : State) : (consume s).cmd = s.cmd := rfl
@[simp] theorem consume_windowMs (s : State) : (consume s).windowMs = s.windowMs := rfl
@[simp] theorem consume_scaleMax (s : State) : (consume s).scaleMax = s.scaleMax := rfl
@[simp] theorem consume_tx (s : State) : (consume s).tx = s.tx := rfl
@[simp] theorem consume_rx (s : State) : (consume s).rx = s.rx := rfl
@[simp] theorem consume_raw (s : State) : (consume s).raw = s.raw := rfl
@[simp] theorem consume_tracker (s : State) : (consume s).tracker = s.tracker := rfl
@[simp] theorem consume_p2p (s : State) : (consume s).p2p = s.p2p := rfl
@[simp] theorem consume_result (s : State) : (consume s).result = s.result := rfl
@[simp] theorem consume_rs (s : State) : (consume s).rs = s.rs := rfl
@[simp] theorem consume_phase (s : State) : (consume s).phase = s.phase := rfl
@[simp] theorem consume_t0 (s : State) : (consume s).t0 = s.t0 := rfl
@[simp] theorem consume_pending (s : State) : (consume s).pending = false := rfl
@[simp] theorem consume_bus (s : State) : (consume s).bus = .quiet := rfl
@[simp] theorem consume_env (s : State) : (consume s).env = s.env := rfl

/-! ### `receive` -/

@[simp] theorem receive_trkMode (a b c : Byte) (s : State) : (receive a b c s).trkMode = s.trkMode := rfl
@[simp] theorem receive_status (a b c : Byte) (s : State) : (receive a b c s).status = s.status := rfl
@[simp] theorem receive_cmd (a b c : Byte) (s : State) : (receive a b c s).cmd = s.cmd := rfl
@[simp] theorem receive_windowMs (a b c : Byte) (s : State) : (receive a b c s).windowMs = s.windowMs := rfl
@[simp] theorem receive_scaleMax (a b c : Byte) (s : State) : (receive a b c s).scaleMax = s.scaleMax := rfl
@[simp] theorem receive_tx (a b c : Byte) (s : State) : (receive a b c s).tx = s.tx := rfl
@[simp] theorem receive_rx (a b c : Byte) (s : State) : (receive a b c s).rx = pack24 a b c := rfl
@[simp] theorem receive_raw (a b c : Byte) (s : State) : (receive a b c s).raw = decodeSample a b c := rfl
@[simp] theorem receive_tracker (a b c : Byte) (s : State) : (receive a b c s).tracker = s.tracker := rfl
@[simp] theorem receive_p2p (a b c : Byte) (s : State) : (receive a b c s).p2p = s.p2p := rfl
@[simp] theorem receive_result (a b c : Byte) (s : State) : (receive a b c s).result = s.result := rfl
@[simp] theorem receive_rs (a b c : Byte) (s : State) : (receive a b c s).rs = s.rs := rfl
@[simp] theorem receive_phase (a b c : Byte) (s : State) : (receive a b c s).phase = s.phase := rfl
@[simp] theorem receive_t0 (a b c : Byte) (s : State) : (receive a b c s).t0 = s.t0 := rfl
@[simp] theorem receive_pending (a b c : Byte) (s : State) : (receive a b c s).pending = false := rfl
@[simp] theorem receive_bus (a b c : Byte) (s : State) : (receive a b c s).bus = .quiet := rfl
@[simp] theorem receive_env (a b c : Byte) (s : State) : (receive a b c s).env = s.env := rfl

/-! ### `clearTracker` -/

@[simp] theorem clearTracker_trkMode (s : State) : (clearTracker s).trkMode = s.trkMode := rfl
@[simp] theorem clearTracker_status (s : State) : (clearTracker s).status = s.status := rfl
@[simp] theorem clearTracker_cmd (s : State) : (clearTracker s).cmd = s.cmd := rfl
@[simp] theorem clearTracker_windowMs (s : State) : (clearTracker s).windowMs = s.windowMs := rfl
@[simp] theorem clearTracker_scaleMax (s : State) : (clearTracker s).scaleMax = s.scaleMax := rfl
@[simp] theorem clearTracker_tx (s : State) : (clearTracker s).tx = s.tx := rfl
@[simp] theorem clearTracker_rx (s : State) : (clearTracker s).rx = s.rx := rfl
@[simp] theorem clearTracker_raw (s : State) : (clearTracker s).raw = s.raw := rfl
@[simp] theorem clearTracker_tracker (s : State) : (clearTracker s).tracker = trackClear := rfl
@[simp] theorem clearTracker_p2p (s : State) : (clearTracker s).p2p = s.p2p := rfl
@[simp] theorem clearTracker_result (s : State) : (clearTracker s).result = s.result := rfl
@[simp] theorem clearTracker_rs (s : State) : (clearTracker s).rs = s.rs := rfl
@[simp] theorem clearTracker_phase (s : State) : (clearTracker s).phase = s.phase := rfl
@[simp] theorem clearTracker_t0 (s : State) : (clearTracker s).t0 = s.t0 := rfl
@[simp] theorem clearTracker_pending (s : State) : (clearTracker s).pending = s.pending := rfl
@[simp] theorem clearTracker_bus (s : State) : (clearTracker s).bus = s.bus := rfl
@[simp] theorem clearTracker_env (s : State) : (clearTracker s).env = s.env := rfl

/-! ### `pushSample` -/

@[simp] theorem pushSample_trkMode (v : BitVec 10) (s : State) : (pushSample v s).trkMode = s.trkMode := rfl
@[simp] theorem pushSample_status (v : BitVec 10) (s : State) : (pushSample v s).status = s.status := rfl
@[simp] theorem pushSample_cmd (v : BitVec 10) (s : State) : (pushSample v s).cmd = s.cmd := rfl
@[simp] theorem pushSample_windowMs (v : BitVec 10) (s : State) : (pushSample v s).windowMs = s.windowMs := rfl
@[simp] theorem pushSample_scaleMax (v : BitVec 10) (s : State) : (pushSample v s).scaleMax = s.scaleMax := rfl
@[simp] theorem pushSample_tx (v : BitVec 10) (s : State) : (pushSample v s).tx = s.tx := rfl
@[simp] theorem pushSample_rx (v : BitVec 10) (s : State) : (pushSample v s).rx = s.rx := rfl
@[simp] theorem pushSample_raw (v : BitVec 10) (s : State) : (pushSample v s).raw = s.raw := rfl
@[simp] theorem pushSample_tracker (v : BitVec 10) (s : State) :
    (pushSample v s).tracker = trackPush s.trkMode v s.tracker :=
  rfl
@[simp] theorem pushSample_p2p (v : BitVec 10) (s : State) : (pushSample v s).p2p = s.p2p := rfl
@[simp] theorem pushSample_result (v : BitVec 10) (s : State) : (pushSample v s).result = s.result := rfl
@[simp] theorem pushSample_rs (v : BitVec 10) (s : State) : (pushSample v s).rs = s.rs := rfl
@[simp] theorem pushSample_phase (v : BitVec 10) (s : State) : (pushSample v s).phase = s.phase := rfl
@[simp] theorem pushSample_t0 (v : BitVec 10) (s : State) : (pushSample v s).t0 = s.t0 := rfl
@[simp] theorem pushSample_pending (v : BitVec 10) (s : State) : (pushSample v s).pending = s.pending := rfl
@[simp] theorem pushSample_bus (v : BitVec 10) (s : State) : (pushSample v s).bus = s.bus := rfl
@[simp] theorem pushSample_env (v : BitVec 10) (s : State) : (pushSample v s).env = s.env := rfl

/-! ### `storePeak` -/

@[simp] theorem storePeak_trkMode (s : State) : (storePeak s).trkMode = s.trkMode := rfl
@[simp] theorem storePeak_status (s : State) :
    (storePeak s).status = { s.status with empty := peakEmpty s.tracker, neg := peakNeg s.tracker } :=
  rfl
@[simp] theorem storePeak_cmd (s : State) : (storePeak s).cmd = s.cmd := rfl
@[simp] theorem storePeak_windowMs (s : State) : (storePeak s).windowMs = s.windowMs := rfl
@[simp] theorem storePeak_scaleMax (s : State) : (storePeak s).scaleMax = s.scaleMax := rfl
@[simp] theorem storePeak_tx (s : State) : (storePeak s).tx = s.tx := rfl
@[simp] theorem storePeak_rx (s : State) : (storePeak s).rx = s.rx := rfl
@[simp] theorem storePeak_raw (s : State) : (storePeak s).raw = s.raw := rfl
@[simp] theorem storePeak_tracker (s : State) : (storePeak s).tracker = s.tracker := rfl
@[simp] theorem storePeak_p2p (s : State) : (storePeak s).p2p = peakP2p s.tracker := rfl
@[simp] theorem storePeak_result (s : State) : (storePeak s).result = s.result := rfl
@[simp] theorem storePeak_rs (s : State) : (storePeak s).rs = s.rs := rfl
@[simp] theorem storePeak_phase (s : State) : (storePeak s).phase = s.phase := rfl
@[simp] theorem storePeak_t0 (s : State) : (storePeak s).t0 = s.t0 := rfl
@[simp] theorem storePeak_pending (s : State) : (storePeak s).pending = s.pending := rfl
@[simp] theorem storePeak_bus (s : State) : (storePeak s).bus = s.bus := rfl
@[simp] theorem storePeak_env (s : State) : (storePeak s).env = s.env := rfl

/-! ### `sampleFinish` -/

@[simp] theorem sampleFinish_trkMode (s : State) : (sampleFinish s).trkMode = s.trkMode := rfl
@[simp] theorem sampleFinish_status (s : State) :
    (sampleFinish s).status = { s.status with empty := peakEmpty s.tracker, neg := peakNeg s.tracker, err := 0, busy := false, done := true } :=
  rfl
@[simp] theorem sampleFinish_cmd (s : State) : (sampleFinish s).cmd = s.cmd := rfl
@[simp] theorem sampleFinish_windowMs (s : State) : (sampleFinish s).windowMs = s.windowMs := rfl
@[simp] theorem sampleFinish_scaleMax (s : State) : (sampleFinish s).scaleMax = s.scaleMax := rfl
@[simp] theorem sampleFinish_tx (s : State) : (sampleFinish s).tx = s.tx := rfl
@[simp] theorem sampleFinish_rx (s : State) : (sampleFinish s).rx = s.rx := rfl
@[simp] theorem sampleFinish_raw (s : State) : (sampleFinish s).raw = s.raw := rfl
@[simp] theorem sampleFinish_tracker (s : State) : (sampleFinish s).tracker = s.tracker := rfl
@[simp] theorem sampleFinish_p2p (s : State) : (sampleFinish s).p2p = peakP2p s.tracker := rfl
@[simp] theorem sampleFinish_result (s : State) :
    (sampleFinish s).result = ofI32 (rescaleSample (i32 (peakP2p s.tracker)) (i32 s.scaleMax)) :=
  rfl
@[simp] theorem sampleFinish_rs (s : State) : (sampleFinish s).rs = s.rs := rfl
@[simp] theorem sampleFinish_phase (s : State) : (sampleFinish s).phase = .idle := rfl
@[simp] theorem sampleFinish_t0 (s : State) : (sampleFinish s).t0 = s.t0 := rfl
@[simp] theorem sampleFinish_pending (s : State) : (sampleFinish s).pending = s.pending := rfl
@[simp] theorem sampleFinish_bus (s : State) : (sampleFinish s).bus = s.bus := rfl
@[simp] theorem sampleFinish_env (s : State) : (sampleFinish s).env = s.env := rfl

/-! ### `dropWrite` -/

@[simp] theorem dropWrite_trkMode (s : State) : (dropWrite s).trkMode = s.trkMode := rfl
@[simp] theorem dropWrite_status (s : State) : (dropWrite s).status = { s.status with dropped := true } := rfl
@[simp] theorem dropWrite_cmd (s : State) : (dropWrite s).cmd = s.cmd := rfl
@[simp] theorem dropWrite_windowMs (s : State) : (dropWrite s).windowMs = s.windowMs := rfl
@[simp] theorem dropWrite_scaleMax (s : State) : (dropWrite s).scaleMax = s.scaleMax := rfl
@[simp] theorem dropWrite_tx (s : State) : (dropWrite s).tx = s.tx := rfl
@[simp] theorem dropWrite_rx (s : State) : (dropWrite s).rx = s.rx := rfl
@[simp] theorem dropWrite_raw (s : State) : (dropWrite s).raw = s.raw := rfl
@[simp] theorem dropWrite_tracker (s : State) : (dropWrite s).tracker = s.tracker := rfl
@[simp] theorem dropWrite_p2p (s : State) : (dropWrite s).p2p = s.p2p := rfl
@[simp] theorem dropWrite_result (s : State) : (dropWrite s).result = s.result := rfl
@[simp] theorem dropWrite_rs (s : State) : (dropWrite s).rs = s.rs := rfl
@[simp] theorem dropWrite_phase (s : State) : (dropWrite s).phase = s.phase := rfl
@[simp] theorem dropWrite_t0 (s : State) : (dropWrite s).t0 = s.t0 := rfl
@[simp] theorem dropWrite_pending (s : State) : (dropWrite s).pending = s.pending := rfl
@[simp] theorem dropWrite_bus (s : State) : (dropWrite s).bus = s.bus := rfl
@[simp] theorem dropWrite_env (s : State) : (dropWrite s).env = s.env := rfl

/-! ### `afterTurn` -/

@[simp] theorem afterTurn_trkMode (s : State) : (afterTurn s).trkMode = s.trkMode := rfl
@[simp] theorem afterTurn_status (s : State) : (afterTurn s).status = s.status := rfl
@[simp] theorem afterTurn_cmd (s : State) : (afterTurn s).cmd = s.cmd := rfl
@[simp] theorem afterTurn_windowMs (s : State) : (afterTurn s).windowMs = s.windowMs := rfl
@[simp] theorem afterTurn_scaleMax (s : State) : (afterTurn s).scaleMax = s.scaleMax := rfl
@[simp] theorem afterTurn_tx (s : State) : (afterTurn s).tx = s.tx := rfl
@[simp] theorem afterTurn_rx (s : State) : (afterTurn s).rx = s.rx := rfl
@[simp] theorem afterTurn_raw (s : State) : (afterTurn s).raw = s.raw := rfl
@[simp] theorem afterTurn_tracker (s : State) : (afterTurn s).tracker = s.tracker := rfl
@[simp] theorem afterTurn_p2p (s : State) : (afterTurn s).p2p = s.p2p := rfl
@[simp] theorem afterTurn_result (s : State) : (afterTurn s).result = s.result := rfl
@[simp] theorem afterTurn_rs (s : State) : (afterTurn s).rs = s.rs := rfl
@[simp] theorem afterTurn_phase (s : State) : (afterTurn s).phase = s.phase := rfl
@[simp] theorem afterTurn_t0 (s : State) : (afterTurn s).t0 = s.t0 := rfl
@[simp] theorem afterTurn_pending (s : State) : (afterTurn s).pending = s.pending := rfl
@[simp] theorem afterTurn_bus (s : State) : (afterTurn s).bus = s.bus := rfl
@[simp] theorem afterTurn_env (s : State) :
    (afterTurn s).env = { s.env with
      schedule := (draw s.env.schedule Config.agentTurn s.env.draws).2.1
      draws := (draw s.env.schedule Config.agentTurn s.env.draws).2.2 } :=
  rfl

/-! ### `timebaseTurn` -/

@[simp] theorem timebaseTurn_trkMode (s : State) : (timebaseTurn s).trkMode = s.trkMode := rfl
@[simp] theorem timebaseTurn_status (s : State) : (timebaseTurn s).status = s.status := rfl
@[simp] theorem timebaseTurn_cmd (s : State) : (timebaseTurn s).cmd = s.cmd := rfl
@[simp] theorem timebaseTurn_windowMs (s : State) : (timebaseTurn s).windowMs = s.windowMs := rfl
@[simp] theorem timebaseTurn_scaleMax (s : State) : (timebaseTurn s).scaleMax = s.scaleMax := rfl
@[simp] theorem timebaseTurn_tx (s : State) : (timebaseTurn s).tx = s.tx := rfl
@[simp] theorem timebaseTurn_rx (s : State) : (timebaseTurn s).rx = s.rx := rfl
@[simp] theorem timebaseTurn_raw (s : State) : (timebaseTurn s).raw = s.raw := rfl
@[simp] theorem timebaseTurn_tracker (s : State) : (timebaseTurn s).tracker = s.tracker := rfl
@[simp] theorem timebaseTurn_p2p (s : State) : (timebaseTurn s).p2p = s.p2p := rfl
@[simp] theorem timebaseTurn_result (s : State) : (timebaseTurn s).result = s.result := rfl
@[simp] theorem timebaseTurn_rs (s : State) : (timebaseTurn s).rs = s.rs := rfl
@[simp] theorem timebaseTurn_phase (s : State) : (timebaseTurn s).phase = s.phase := rfl
@[simp] theorem timebaseTurn_t0 (s : State) : (timebaseTurn s).t0 = s.t0 := rfl
@[simp] theorem timebaseTurn_pending (s : State) : (timebaseTurn s).pending = s.pending := rfl
@[simp] theorem timebaseTurn_bus (s : State) : (timebaseTurn s).bus = s.bus := rfl
@[simp] theorem timebaseTurn_env (s : State) :
    (timebaseTurn s).env = { s.env with
      clock := s.env.clock + (draw s.env.tickQueue Config.tick s.env.draws).1
      tickQueue := (draw s.env.tickQueue Config.tick s.env.draws).2.1
      draws := (draw s.env.tickQueue Config.tick s.env.draws).2.2 } :=
  rfl

/-! ### `resetBlock` -/

@[simp] theorem resetBlock_trkMode (s : State) : (resetBlock s).trkMode = State.reset.trkMode := rfl
@[simp] theorem resetBlock_status (s : State) : (resetBlock s).status = State.reset.status := rfl
@[simp] theorem resetBlock_cmd (s : State) : (resetBlock s).cmd = State.reset.cmd := rfl
@[simp] theorem resetBlock_windowMs (s : State) : (resetBlock s).windowMs = State.reset.windowMs := rfl
@[simp] theorem resetBlock_scaleMax (s : State) : (resetBlock s).scaleMax = State.reset.scaleMax := rfl
@[simp] theorem resetBlock_tx (s : State) : (resetBlock s).tx = State.reset.tx := rfl
@[simp] theorem resetBlock_rx (s : State) : (resetBlock s).rx = State.reset.rx := rfl
@[simp] theorem resetBlock_raw (s : State) : (resetBlock s).raw = State.reset.raw := rfl
@[simp] theorem resetBlock_tracker (s : State) : (resetBlock s).tracker = State.reset.tracker := rfl
@[simp] theorem resetBlock_p2p (s : State) : (resetBlock s).p2p = State.reset.p2p := rfl
@[simp] theorem resetBlock_result (s : State) : (resetBlock s).result = State.reset.result := rfl
@[simp] theorem resetBlock_rs (s : State) : (resetBlock s).rs = State.reset.rs := rfl
@[simp] theorem resetBlock_phase (s : State) : (resetBlock s).phase = State.reset.phase := rfl
@[simp] theorem resetBlock_t0 (s : State) : (resetBlock s).t0 = State.reset.t0 := rfl
@[simp] theorem resetBlock_pending (s : State) : (resetBlock s).pending = State.reset.pending := rfl
@[simp] theorem resetBlock_bus (s : State) : (resetBlock s).bus = State.reset.bus := rfl
@[simp] theorem resetBlock_env (s : State) : (resetBlock s).env = s.env := rfl

/-! ### Turns -/

@[simp] theorem draw_cons {α : Type} (a : α) (rest : List α) (free : Nat → α) (n : Nat) :
    draw (a :: rest) free n = (a, rest, n) := rfl
@[simp] theorem draw_nil {α : Type} (free : Nat → α) (n : Nat) : draw [] free n = (free n, [], n + 1) := rfl

end Sys2Proof.Machine
end

