-- ==== Sys2Proof/Laws/Arith.lean ====
section
/-!
SUPPORT. What the pure functions of the rules compute, as numbers: the framer, the decoder, the packing of frames, and
channels.
-/

namespace Sys2Proof.Machine

theorem toChannel_of_le {ch : Nat} (h : ch ≤ 7) : toChannel ch = some ⟨ch, Nat.lt_succ_of_le h⟩ := by
  simp [toChannel, h]

theorem toChannel_of_gt {ch : Nat} (h : 7 < ch) : toChannel ch = none := by
  simp only [toChannel, dif_neg (by omega : ¬ ch ≤ 7)]

/-- The only channels a frame is built for (R111). -/
theorem toChannel_eq_some {ch : Nat} {c : Fin 8} (h : toChannel ch = some c) : ch = c.val := by
  by_cases hc : ch ≤ 7
  · rw [toChannel_of_le hc] at h
    obtain rfl := Option.some.inj h
    rfl
  · rw [toChannel_of_gt (by omega)] at h
    cases h

/-- TX's view of a frame (R79). -/
theorem frameWord_eq : ∀ ch : Fin 8, frameWord ch = 0x018000#24 ||| (BitVec.ofNat 24 ch.val <<< 12) := by decide

/-- The same as the host reads it (R51). -/
theorem frameWord_eq_word :
    ∀ ch : Fin 8, (frameWord ch).setWidth 32 = 0x018000#32 ||| (BitVec.ofNat 32 ch.val <<< 12) := by decide

/-- The bytes of a frame pass the decoder's test for an outbound frame (R77). -/
theorem isChannelSelect_frame : ∀ ch : Fin 8, isChannelSelect startByte (configByte ch) padByte = true := by decide

theorem pack24_toNat (b0 b1 b2 : Byte) :
    (pack24 b0 b1 b2).toNat = b0.toNat * 65536 + b1.toNat * 256 + b2.toNat := by
  have h0 := b0.isLt
  have h1 := b1.isLt
  have h2 := b2.isLt
  have e : (pack24 b0 b1 b2).toNat = (b0.toNat <<< 8 ||| b1.toNat) <<< 8 ||| b2.toNat := by
    show (b0 ++ b1 ++ b2).toNat = _
    rw [BitVec.toNat_append, BitVec.toNat_append]
  rw [e, ← Nat.shiftLeft_add_eq_or_of_lt h2, ← Nat.shiftLeft_add_eq_or_of_lt h1]
  simp only [Nat.shiftLeft_eq]
  omega

/-- The sample as a number (R101). -/
theorem decodeSample_toNat (rx0 rx1 rx2 : Byte) :
    (decodeSample rx0 rx1 rx2).toNat = rx1.toNat % 4 * 256 + rx2.toNat := by
  have h1 := rx1.isLt
  have h2 := rx2.isLt
  have h4 : rx1.toNat &&& 3 = rx1.toNat % 4 := Nat.and_two_pow_sub_one_eq_mod rx1.toNat 2
  have hm : rx1.toNat % 4 < 4 := Nat.mod_lt _ (by decide)
  have hor : (rx1.toNat % 4) <<< 8 ||| rx2.toNat = (rx1.toNat % 4) <<< 8 + rx2.toNat :=
    (Nat.shiftLeft_add_eq_or_of_lt h2 _).symm
  simp only [decodeSample, BitVec.toNat_or, BitVec.toNat_shiftLeft, BitVec.toNat_setWidth, BitVec.toNat_and,
    BitVec.toNat_ofNat]
  norm_num [h4]
  rw [Nat.mod_eq_of_lt (a := rx1.toNat % 4) (by omega), Nat.mod_eq_of_lt (a := rx2.toNat) (by omega),
    Nat.mod_eq_of_lt (by rw [Nat.shiftLeft_eq]; omega), hor, Nat.shiftLeft_eq]

/-- COUNT after a push is never 0 (R11). -/
theorem satInc32_ne_zero (n : Word) : satInc32 n ≠ 0 := by
  have h := n.isLt
  unfold satInc32
  intro h0
  split at h0
  · subst h0; simp_all
  · have := congrArg BitVec.toNat h0
    rw [BitVec.toNat_add] at this
    simp at this
    omega

/-- Ceiling division by a positive number, as two bounds (R10). -/
theorem ceilDiv_bounds (a b : Int) (hb : 0 < b) : a ≤ ceilDiv a b * b ∧ ceilDiv a b * b < a + b := by
  have hlt := Int.lt_ediv_add_one_mul_self (a + b - 1) hb
  have hle := Int.ediv_mul_le (a + b - 1) (ne_of_gt hb)
  rw [ceilDiv, if_neg (by omega)]
  constructor
  · nlinarith
  · nlinarith

end Sys2Proof.Machine
end

