-- ==== Sys2Proof/Laws/Ops.lean ====
section
/-!
SUPPORT. What each shared operation can do, said once: acceptance and completion, the bus port, the tracker and `Peak`,
the host port, the fetches, and runs of many steps.
-/

namespace Sys2Proof.Machine

/-! ## Bus port -/

/-- Issuing a frame, when none is pending. -/
theorem issueFrame_of_not_pending {ch : Fin 8} {w : Phase} {s : State} (h : s.pending = false) :
    issueFrame ch w s = .next { s with
      tx := frameWord ch, pending := true, bus := .issued startByte (configByte ch) padByte, phase := w } := by
  simp [issueFrame, h]

/-- All that issuing a frame can answer. -/
theorem issueFrame_cases {ch : Fin 8} {w : Phase} {s t : State} (h : issueFrame ch w s = .next t) :
    s.pending = false ∧ t = { s with
      tx := frameWord ch, pending := true, bus := .issued startByte (configByte ch) padByte, phase := w } := by
  unfold issueFrame at h
  split at h
  · cases h
  · rename_i hp
    cases h
    exact ⟨by simpa using hp, rfl⟩

/-- All that the bus agent's step on a frame can answer. -/
theorem answerFrame_cases {ch : Fin 8} {s t : State} (h : answerFrame ch s = .next t) :
    t = s ∨ (s.pending = true ∧ (∃ b0 b1 b2, s.bus = .issued b0 b1 b2) ∧
      t = { s with
        bus := .answered (draw s.env.busQueue (Config.busAnswer ch) s.env.draws).1
        env := { s.env with
          busQueue := (draw s.env.busQueue (Config.busAnswer ch) s.env.draws).2.1
          draws := (draw s.env.busQueue (Config.busAnswer ch) s.env.draws).2.2 } }) := by
  unfold answerFrame at h
  split at h
  · cases h
    exact .inr ⟨by assumption, ⟨_, _, _, by assumption⟩, rfl⟩
  · cases h
    exact .inl rfl

/-- An outbound word is answered if it is one of the eight frames, and rejected by name otherwise. -/
theorem runWord_outbound (b0 b1 b2 : Byte) (s : State) :
    (∃ ch, runWord (.adcTx24 b0 b1 b2) s = answerFrame ch s) ∨
      isChannelSelect b0 b1 b2 = false ∧
        runWord (.adcTx24 b0 b1 b2) s = .refused (.undecodable (.notAChannelSelectFrame b0 b1 b2)) := by
  by_cases h : isChannelSelect b0 b1 b2 = true
  · left
    simp only [runWord, decode, h, if_true]
    unfold selectorInstr
    split <;> exact ⟨_, rfl⟩
  · exact .inr ⟨by simpa using h, by simp [runWord, decode, h]⟩

/-- The frame the block issues reaches the row of its channel. -/
theorem runWord_frame (ch : Fin 8) (s : State) :
    runWord (.adcTx24 startByte (configByte ch) padByte) s = answerFrame ch s := by
  fin_cases ch <;> rfl

/-- An inbound word runs ADC_RESULT. -/
theorem runWord_inbound (b0 b1 b2 : Byte) (s : State) :
    runWord (.adcRx24 b0 b1 b2) s = execAdcResult b0 b1 b2 s := rfl

/-- A frame is fetched only while one is pending and unanswered. -/
theorem fetchFrame_eq_some {s : State} {p : PortWord} (h : fetchFrame s = some p) :
    s.pending = true ∧ ∃ b0 b1 b2, s.bus = .issued b0 b1 b2 ∧ p = .adcTx24 b0 b1 b2 := by
  unfold fetchFrame at h
  split at h
  · cases h
    exact ⟨by assumption, _, _, _, by assumption, rfl⟩
  · cases h

/-- An answer is fetched only where the bus has answered. -/
theorem fetchAnswer_eq_some {s : State} {a : BusAnswer} (h : fetchAnswer s = some a) : s.bus = .answered a := by
  unfold fetchAnswer at h
  split at h
  · cases h
    assumption
  · cases h
  · cases h

/-! ## Tracker and Peak -/

theorem setWidth11_toNat (v : BitVec 10) : (v.setWidth 11).toNat = v.toNat := by
  have := v.isLt
  simp
  omega

/-- A comparison keeps the ranges of R30 and R31 and leaves the sentinels. -/
theorem trackCompare_bounds (v : BitVec 10) (t : Tracker) (h1 : t.readMax.toNat ≤ 1023) (h2 : t.readMin.toNat ≤ 1024) :
    (trackCompare v t).readMax.toNat ≤ 1023 ∧ (trackCompare v t).readMin.toNat ≤ 1024 ∧
      (0 < (trackCompare v t).readMax.toNat ∨ (trackCompare v t).readMin.toNat ≤ 1023) := by
  have := v.isLt
  unfold trackCompare
  split
  · simp only [setWidth11_toNat]
    omega
  · split
    · simp only [setWidth11_toNat]
      omega
    · omega

/-- The same of a push, in either mode. -/
theorem trackPush_bounds (m : TrkMode) (v : BitVec 10) (t : Tracker) (h1 : t.readMax.toNat ≤ 1023)
    (h2 : t.readMin.toNat ≤ 1024) :
    (trackPush m v t).readMax.toNat ≤ 1023 ∧ (trackPush m v t).readMin.toNat ≤ 1024 ∧
      (0 < (trackPush m v t).readMax.toNat ∨ (trackPush m v t).readMin.toNat ≤ 1023) := by
  have := v.isLt
  have key := trackCompare_bounds v t h1 h2
  cases m with
  | sentinel => exact key
  | firstSample =>
    simp only [trackPush, trackBounds]
    split
    · simp only [setWidth11_toNat]
      omega
    · exact key

/-- The i32 encoding of a representable integer reads back as it. -/
theorem i32_ofI32 (z : Int) (h1 : -2147483648 ≤ z) (h2 : z ≤ 2147483647) : i32 (ofI32 z) = z := by
  simp only [i32, ofI32, BitVec.toInt_ofInt]
  apply Int.bmod_eq_of_le_mul_two <;> norm_num <;> omega

/-- The span of a tracker in range, as P2P encodes it. -/
theorem peakP2p_of_count_ne {t : Tracker} (h : t.count ≠ 0) : i32 (peakP2p t) = span t := by
  have h1 := t.readMax.isLt
  have h2 := t.readMin.isLt
  rw [peakP2p, if_neg h]
  apply i32_ofI32 <;> unfold span <;> omega

/-- P2P's range (R33), for a tracker that has left the sentinels once it has counted a sample. -/
theorem peakP2p_bounds (t : Tracker) (h1 : t.readMax.toNat ≤ 1023) (h2 : t.readMin.toNat ≤ 1024)
    (h3 : t.count ≠ 0 → 0 < t.readMax.toNat ∨ t.readMin.toNat ≤ 1023) :
    -1023 ≤ i32 (peakP2p t) ∧ i32 (peakP2p t) ≤ 1023 := by
  by_cases hc : t.count = 0
  · simp [peakP2p, hc, i32]
  · have := h3 hc
    rw [peakP2p_of_count_ne hc]
    unfold span
    omega

/-- A sequence of pushes, one at a time. -/
@[simp] theorem pushes_nil (m : TrkMode) (t : Tracker) : pushes m [] t = t := rfl

@[simp] theorem pushes_cons (m : TrkMode) (v : BitVec 10) (vs : List (BitVec 10)) (t : Tracker) :
    pushes m (v :: vs) t = pushes m vs (trackPush m v t) := rfl

/-! ## Rescaler -/

/-- The sampler's instance (R155). -/
theorem rescaleSample_eq (p s : Int) : rescaleSample p s = ceilDiv (p * s) 1024 := by
  simp [rescaleSample, rescale, sampleSrcLo, sampleSrcHi, sampleDstLo]

/-! ## Time -/

/-- The window check as integers (R174). -/
theorem windowOpen_iff (s : State) : windowOpen s = true ↔ (s.env.clock : Int) - s.t0 < u32 s.windowMs :=
  decide_eq_true_iff

theorem windowOpen_eq_false_iff (s : State) :
    windowOpen s = false ↔ (u32 s.windowMs : Int) ≤ (s.env.clock : Int) - s.t0 := by
  rw [← Bool.not_eq_true, windowOpen_iff, not_lt]

/-! ## Host port -/

/-- All that a host write can do: nothing, clear DROPPED, set DROPPED, or (while idle) store. -/
theorem hostWrite_cases (i : BitVec 8) (v : Word) (s : State) :
    hostWrite i v s = s ∨
    (i = 1 ∧ hostWrite i v s = writeStatus v s) ∨
    (s.status.busy = true ∧ hostWrite i v s = dropWrite s) ∨
    (s.status.busy = false ∧ ∃ r, regOfIndex i = some r ∧ readOnly r = false ∧ r ≠ .status ∧
      hostWrite i v s = storeReg r v s) := by
  unfold hostWrite
  split
  · exact .inl rfl
  · rename_i h
    refine .inr (.inl ⟨?_, rfl⟩)
    revert h
    revert i
    decide
  · rename_i r hr hne
    by_cases hro : readOnly r = true
    · exact .inl (by simp [hro])
    · by_cases hb : s.status.busy = true
      · exact .inr (.inr (.inl ⟨hb, by simp [hro, hb]⟩))
      · exact .inr (.inr (.inr ⟨by simpa using hb, r, hne, by simpa using hro, by simpa using hr, by simp [hro, hb]⟩))

/-- A write to STATUS moves DROPPED only. -/
theorem writeStatus_eq (v : Word) (s : State) :
    writeStatus v s = { s with status := { s.status with dropped := s.status.dropped && !v.getLsbD 4 } } := by
  unfold writeStatus
  cases v.getLsbD 4 <;> simp

/-! ## Turns and runs -/

/-- A scheduled turn is the next step. -/
theorem step_of_schedule {s : State} {a : Agent} {rest : List Agent} (h : s.env.schedule = a :: rest) :
    step s = turn a { s with env := { s.env with schedule := rest } } := by
  simp [step, nextAgent, afterTurn, draw, h]

@[simp] theorem run_zero (s : State) : run 0 s = .next s := rfl

theorem run_succ {s t : State} (k : Nat) (h : step s = .next t) : run (k + 1) s = run k t := by
  simp [run, h]

theorem run_add {s t : State} (j k : Nat) (h : run j s = .next t) : run (j + k) s = run k t := by
  induction j generalizing s with
  | zero => cases h; simp
  | succ j ih =>
    rw [Nat.add_right_comm]
    cases hs : step s with
    | next u => rw [run_succ _ hs] at h ⊢; exact ih h
    | fault r => simp [run, hs] at h
    | refused r => simp [run, hs] at h

/-- A run of any machine of the host's interface, by the outcome of its first step. -/
theorem coreRun_next (M : Host.Core) {s t : M.State} (k : Nat) (h : M.step s = .next t) :
    M.run (k + 1) s = M.run k t := by
  simp [Host.Core.run, h]

theorem coreRun_fault (M : Host.Core) {s : M.State} {r : M.Fault} (k : Nat) (h : M.step s = .fault r) :
    M.run (k + 1) s = .fault r := by
  simp [Host.Core.run, h]

theorem coreRun_refused (M : Host.Core) {s : M.State} {r : M.Refusal} (k : Nat) (h : M.step s = .refused r) :
    M.run (k + 1) s = .refused r := by
  simp [Host.Core.run, h]

/-- The runs of claims are those of the host's interface. -/
theorem run_eq_core (k : Nat) (s : State) : Sys2Proof.core.run k s = run k s := by
  induction k generalizing s with
  | zero => rfl
  | succ k ih =>
    cases hs : step s with
    | next t => exact (coreRun_next Sys2Proof.core k hs).trans ((ih t).trans (run_succ k hs).symm)
    | fault r =>
      have h : run (k + 1) s = .fault r := by simp [run, hs]
      exact (coreRun_fault Sys2Proof.core k hs).trans h.symm
    | refused r =>
      have h : run (k + 1) s = .refused r := by simp [run, hs]
      exact (coreRun_refused Sys2Proof.core k hs).trans h.symm

end Sys2Proof.Machine
end

