-- ==== Sys2Proof/Laws/PerInstr.lean ====
section
/-!
SUPPORT. A family of statements about every instruction: its encoding is of the format of its row, R70.
-/

namespace Sys2Proof.Laws

/-- The encoding of an instruction is a word of the port its row belongs to (R70, R86). -/
def EncodeFormat.Statement (i : Instr) : Prop := (encode i).format = i.format

theorem EncodeFormat.nop : EncodeFormat.Statement .nop := rfl
theorem EncodeFormat.frame (ch : Nat) : EncodeFormat.Statement (.frame ch) := rfl
theorem EncodeFormat.decode : EncodeFormat.Statement .decode := rfl
theorem EncodeFormat.read (ch : Nat) : EncodeFormat.Statement (.read ch) := rfl
theorem EncodeFormat.trackClear : EncodeFormat.Statement .trackClear := rfl
theorem EncodeFormat.trackPush (v : Nat) : EncodeFormat.Statement (.trackPush v) := rfl
theorem EncodeFormat.peak : EncodeFormat.Statement .peak := rfl
theorem EncodeFormat.rescale : EncodeFormat.Statement .rescale := rfl
theorem EncodeFormat.sample (ch : Nat) : EncodeFormat.Statement (.sample ch) := rfl
theorem EncodeFormat.reserved9 : EncodeFormat.Statement .reserved9 := rfl
theorem EncodeFormat.reservedA : EncodeFormat.Statement .reservedA := rfl
theorem EncodeFormat.reservedB : EncodeFormat.Statement .reservedB := rfl
theorem EncodeFormat.reservedC : EncodeFormat.Statement .reservedC := rfl
theorem EncodeFormat.reservedD : EncodeFormat.Statement .reservedD := rfl
theorem EncodeFormat.reservedE : EncodeFormat.Statement .reservedE := rfl
theorem EncodeFormat.reservedF : EncodeFormat.Statement .reservedF := rfl
theorem EncodeFormat.adcSeCh0 : EncodeFormat.Statement .adcSeCh0 := rfl
theorem EncodeFormat.adcSeCh1 : EncodeFormat.Statement .adcSeCh1 := rfl
theorem EncodeFormat.adcSeCh2 : EncodeFormat.Statement .adcSeCh2 := rfl
theorem EncodeFormat.adcSeCh3 : EncodeFormat.Statement .adcSeCh3 := rfl
theorem EncodeFormat.adcSeCh4 : EncodeFormat.Statement .adcSeCh4 := rfl
theorem EncodeFormat.adcSeCh5 : EncodeFormat.Statement .adcSeCh5 := rfl
theorem EncodeFormat.adcSeCh6 : EncodeFormat.Statement .adcSeCh6 := rfl
theorem EncodeFormat.adcSeCh7 : EncodeFormat.Statement .adcSeCh7 := rfl
theorem EncodeFormat.adcResult (rx0 rx1 rx2 : Byte) : EncodeFormat.Statement (.adcResult rx0 rx1 rx2) := rfl

end Sys2Proof.Laws
end

