-- ==== Sys2Proof/Laws/Steps.lean ====
section
/-!
SUPPORT. Inversion: all that a command, and a turn of each agent, can do when it answers a next state.
-/

namespace Sys2Proof.Machine

/-- A command word decodes to a row of the command set (R86). -/
theorem decodeCmd_format (w : Word) : (decodeCmd w).format = .cmd32 := by
  unfold decodeCmd
  split <;> rfl

/-- A command ends in error, ends having written outputs of its own, issues a frame, or starts a window. -/
theorem exec_cases {i : Instr} (hi : i.format = .cmd32) {s t : State} (h : exec i s = .next t) :
    (∃ e, e ≠ .none ∧ t = complete e s) ∨
    (∃ tx raw tr p2p em ne res, t = complete .none { s with
      tx := tx, raw := raw, tracker := tr, p2p := p2p, result := res
      status := { s.status with empty := em, neg := ne } }) ∨
    (s.pending = false ∧ ∃ ch, t = { s with
      tx := frameWord ch, pending := true, bus := .issued startByte (configByte ch) padByte, phase := .readWait }) ∨
    ((∃ ch, i = .sample ch ∧ ch ≤ 7) ∧ 0 ≤ i32 s.scaleMax ∧
      t = { s with tracker := trackClear, t0 := s.env.clock, phase := .sampleCheck }) := by
  cases i
  case frame =>
    simp only [exec, execFrame] at h
    split at h <;> cases h
    · exact .inl ⟨_, by simp, rfl⟩
    · exact .inr (.inl ⟨_, s.raw, s.tracker, s.p2p, s.status.empty, s.status.neg, s.result, rfl⟩)
  case read =>
    simp only [exec, execRead] at h
    split at h
    · cases h
      exact .inl ⟨_, by simp, rfl⟩
    · obtain ⟨hp, rfl⟩ := issueFrame_cases h
      exact .inr (.inr (.inl ⟨hp, _, rfl⟩))
  case trackPush v =>
    simp only [exec, execTrackPush] at h
    split at h <;> cases h
    · exact .inl ⟨_, by simp, rfl⟩
    · exact .inr (.inl ⟨s.tx, s.raw, trackPush s.trkMode (BitVec.ofNat 10 v) s.tracker, s.p2p, s.status.empty,
        s.status.neg, s.result, rfl⟩)
  case rescale =>
    simp only [exec, execRescale] at h
    split at h
    · cases h
      exact .inl ⟨_, by simp, rfl⟩
    · split at h <;> cases h
      · exact .inr (.inl ⟨s.tx, s.raw, s.tracker, s.p2p, s.status.empty, s.status.neg, _, rfl⟩)
      · exact .inl ⟨_, by simp, rfl⟩
  case sample ch =>
    simp only [exec, execSample] at h
    split at h
    · cases h
      exact .inl ⟨_, by simp, rfl⟩
    · rename_i c hc
      have := toChannel_eq_some hc
      split at h <;> cases h
      · exact .inl ⟨_, by simp, rfl⟩
      · exact .inr (.inr (.inr ⟨⟨ch, rfl, by omega⟩, by omega, rfl⟩))
  case nop =>
    cases h
    exact .inr (.inl ⟨s.tx, s.raw, s.tracker, s.p2p, s.status.empty, s.status.neg, s.result, rfl⟩)
  case decode =>
    cases h
    exact .inr (.inl ⟨s.tx, _, s.tracker, s.p2p, s.status.empty, s.status.neg, s.result, rfl⟩)
  case trackClear =>
    cases h
    exact .inr (.inl ⟨s.tx, s.raw, trackClear, s.p2p, s.status.empty, s.status.neg, s.result, rfl⟩)
  case peak =>
    cases h
    exact .inr (.inl ⟨s.tx, s.raw, s.tracker, _, _, _, s.result, rfl⟩)
  all_goals first
    | (cases h; exact .inl ⟨.illegalOp, by simp, rfl⟩)
    | simp [Instr.format] at hi

/-- The block's turn: no step, an end in error, an end of a command, a finish, an issue, a start, or a response. -/
theorem blockTurn_cases {s t : State} (h : blockTurn s = .next t) :
    t = s ∨
    (s.phase ≠ .idle ∧ ∃ e u, e ≠ .none ∧ (u = s ∨ u = consume s) ∧ t = complete e u) ∨
    (s.phase = .exec ∧ ∃ tx raw tr p2p em ne res, t = complete .none { s with
      tx := tx, raw := raw, tracker := tr, p2p := p2p, result := res
      status := { s.status with empty := em, neg := ne } }) ∨
    (s.phase = .sampleCheck ∧ windowOpen s = false ∧ t = sampleFinish s) ∨
    (s.pending = false ∧ ∃ ch w, w ≠ .idle ∧ t = { s with
      tx := frameWord ch, pending := true, bus := .issued startByte (configByte ch) padByte, phase := w }) ∨
    (s.phase = .exec ∧ t = { s with tracker := trackClear, t0 := s.env.clock, phase := .sampleCheck }) ∨
    (s.phase = .readWait ∧ ∃ b0 b1 b2, s.bus = .answered (.ok b0 b1 b2) ∧ t = complete .none (receive b0 b1 b2 s)) ∨
    (s.phase = .sampleWait ∧ ∃ b0 b1 b2, s.bus = .answered (.ok b0 b1 b2) ∧
      t = { pushSample (decodeSample b0 b1 b2) (receive b0 b1 b2 s) with phase := .sampleCheck }) := by
  unfold blockTurn at h
  split at h
  · cases h
    exact .inl rfl
  · rename_i hp
    rcases exec_cases (decodeCmd_format s.cmd) h with ⟨e, he, rfl⟩ | h | ⟨h1, ch, h2⟩ | ⟨-, -, h⟩
    · exact .inr (.inl ⟨by simp [hp], e, _, he, .inl rfl, rfl⟩)
    · exact .inr (.inr (.inl ⟨hp, h⟩))
    · exact .inr (.inr (.inr (.inr (.inl ⟨h1, ch, _, by simp, h2⟩))))
    · exact .inr (.inr (.inr (.inr (.inr (.inl ⟨hp, h⟩)))))
  · rename_i hp
    unfold waitStep at h
    split at h
    · rename_i hf
      simp only [runWord_inbound, execAdcResult, hp, readComplete] at h
      cases h
      exact .inr (.inr (.inr (.inr (.inr (.inr (.inl ⟨hp, _, _, _, fetchAnswer_eq_some hf, rfl⟩))))))
    · simp only [transferFailed, hp, readFailed] at h
      cases h
      exact .inr (.inl ⟨by simp [hp], .transferFailure, _, by simp, .inr rfl, rfl⟩)
    · cases h
      exact .inl rfl
  · rename_i hp
    unfold windowCheck at h
    split at h
    · split at h
      · obtain ⟨hq, rfl⟩ := issueFrame_cases h
        exact .inr (.inr (.inr (.inr (.inl ⟨hq, _, _, by simp, rfl⟩))))
      · cases h
    · rename_i hw
      cases h
      exact .inr (.inr (.inr (.inl ⟨hp, by simpa using hw, rfl⟩)))
  · rename_i hp
    unfold waitStep at h
    split at h
    · rename_i hf
      simp only [runWord_inbound, execAdcResult, hp, samplePush] at h
      cases h
      exact .inr (.inr (.inr (.inr (.inr (.inr (.inr ⟨hp, _, _, _, fetchAnswer_eq_some hf, rfl⟩))))))
    · simp only [transferFailed, hp, sampleAborted] at h
      cases h
      exact .inr (.inl ⟨by simp [hp], .transferFailure, _, by simp, .inr rfl, rfl⟩)
    · cases h
      exact .inl rfl

/-- The bus agent's turn: no step, or one answer to a pending frame. -/
theorem busTurn_cases {s t : State} (h : busTurn s = .next t) :
    t = s ∨ (s.pending = true ∧ (∃ b0 b1 b2, s.bus = .issued b0 b1 b2) ∧
      ∃ a q d, t = { s with bus := .answered a, env := { s.env with busQueue := q, draws := d } }) := by
  unfold busTurn at h
  split at h
  · rename_i p hp
    obtain ⟨h1, b0, b1, b2, h2, rfl⟩ := fetchFrame_eq_some hp
    rcases runWord_outbound b0 b1 b2 s with ⟨ch, e⟩ | ⟨-, e⟩
    · rw [e] at h
      rcases answerFrame_cases h with rfl | ⟨hq, hb, rfl⟩
      · exact .inl rfl
      · exact .inr ⟨hq, hb, _, _, _, rfl⟩
    · rw [e] at h
      cases h
  · cases h
    exact .inl rfl

/-- The host's turn: DROPPED at most, or, while idle, one register's store; and the host's own data. -/
theorem hostTurn_cases (s : State) :
    ∃ env : Env, env.clock = s.env.clock ∧ env.schedule = s.env.schedule ∧ env.busQueue = s.env.busQueue ∧
      env.tickQueue = s.env.tickQueue ∧
      ((∃ d, hostTurn s = { s with env := env, status := { s.status with dropped := d } } ∧
          (d = s.status.dropped ∨ (d = true ∧ s.status.busy = true) ∨
            ∃ v : Word, v.getLsbD 4 = true ∧
              (draw s.env.hostQueue Config.hostTransaction s.env.draws).1 = .write 1 v)) ∨
        (s.status.busy = false ∧ ∃ r v, r ≠ .status ∧ hostTurn s = storeReg r v { s with env := env })) := by
  unfold hostTurn
  cases hd : (draw s.env.hostQueue Config.hostTransaction s.env.draws).1 with
  | read i =>
    refine ⟨_, ?_, ?_, ?_, ?_, .inl ⟨s.status.dropped, rfl, .inl rfl⟩⟩ <;> rfl
  | write i v =>
    refine ⟨{ s.env with
      hostQueue := (draw s.env.hostQueue Config.hostTransaction s.env.draws).2.1
      draws := (draw s.env.hostQueue Config.hostTransaction s.env.draws).2.2 }, rfl, rfl, rfl, rfl, ?_⟩
    simp only [transact]
    rcases hostWrite_cases i v { s with env := { s.env with
        hostQueue := (draw s.env.hostQueue Config.hostTransaction s.env.draws).2.1
        draws := (draw s.env.hostQueue Config.hostTransaction s.env.draws).2.2 } } with
      e | ⟨rfl, e⟩ | ⟨hb, e⟩ | ⟨hb, r, -, -, hr, e⟩
    · rw [e]
      exact .inl ⟨s.status.dropped, rfl, .inl rfl⟩
    · rw [e, writeStatus_eq]
      refine .inl ⟨_, rfl, ?_⟩
      cases hv : v.getLsbD 4
      · exact .inl (by simp)
      · exact .inr (.inr ⟨v, hv, rfl⟩)
    · rw [e]
      exact .inl ⟨true, rfl, .inr (.inl ⟨rfl, hb⟩)⟩
    · rw [e]
      exact .inr ⟨hb, r, v, hr, rfl⟩

/-- One step is one turn of one agent. -/
theorem step_cases {s t : State} (h : step s = .next t) :
    (nextAgent s = .host ∧ t = hostTurn (afterTurn s)) ∨
    (nextAgent s = .block ∧ blockTurn (afterTurn s) = .next t) ∨
    (nextAgent s = .bus ∧ busTurn (afterTurn s) = .next t) ∨
    (nextAgent s = .timebase ∧ t = timebaseTurn (afterTurn s)) ∨
    (nextAgent s = .platform ∧ t = resetBlock (afterTurn s)) := by
  unfold step at h
  cases ha : nextAgent s <;> rw [ha] at h <;> simp only [turn] at h
  · cases h
    simp
  · simp [h]
  · simp [h]
  · cases h
    simp
  · cases h
    simp

end Sys2Proof.Machine
end

