-- ==== Sys2Proof/Tests/Slice0.lean ====
section
/-!
SUPPORT. Tests: the checks of WellFormed refuse, every constructor's decoding from a word written out of spec/30_encoding.md,
single steps with the values of spec/95_test_vectors.md (the vector's id stands in the comment), and a witness for the
hypotheses of every statement.
-/

namespace Sys2Proof.Tests

open Sys2Proof.Machine

/-! ## States the tests start from -/

/-- A state with these turns scheduled. -/
def withTurns (turns : List Agent) (s : State) : State := { s with env := { s.env with schedule := turns } }

/-- A command word accepted, and the block's turn. -/
def accepted (w : Word) (s : State) : State := withTurns [.block] (accept w s)

/-- READ on channel 3 waiting for the bus. -/
def readWaiting : State :=
  { accept 0x00000303#32 State.reset with
    tx := 0x01B000#24, pending := true, bus := .issued 0x01#8 0xB0#8 0x00#8, phase := .readWait }

/-- The same once the bus has answered. -/
def readAnswered (a : BusAnswer) : State := withTurns [.block] { readWaiting with bus := .answered a }

/-- SAMPLE on channel 2 before a window check, with WINDOW_MS = 50, SCALE_MAX = 100 and T0 = 10. -/
def sampleChecking (now : Nat) : State :=
  { accept 0x00000208#32 State.reset with
    windowMs := 50, scaleMax := 100, t0 := 10, phase := .sampleCheck
    env := { State.reset.env with clock := now, schedule := [.block] } }

/-- The same while a transfer runs. -/
def sampleWaiting : State :=
  { sampleChecking 20 with
    tx := 0x01A000#24, pending := true, bus := .issued 0x01#8 0xA0#8 0x00#8, phase := .sampleWait }

/-- The same once the bus has answered. -/
def sampleAnswered (a : BusAnswer) : State := { sampleWaiting with bus := .answered a }

/-- A tracker fed in SENTINEL or FIRST_SAMPLE mode, from a clear. -/
def trackerAfter (m : TrkMode) (vs : List (BitVec 10)) : State :=
  { State.reset with trkMode := m, tracker := pushes m vs trackClear }

/-- The five operands of RESCALE (R35). -/
def rescaling (value sl sh dl dh : Word) : State :=
  { State.reset with result := 77, rs := { value := value, srcLo := sl, srcHi := sh, dstLo := dl, dstHi := dh } }

/-- The result is a next state that passes a check. -/
def nextIs (r : Machine.Result) (check : State → Bool) : Bool :=
  match r with
  | .next t => check t
  | .fault _ => false
  | .refused _ => false

/-- A register reads as a value. -/
def reads (t : State) (r : Reg) (v : Word) : Bool := regValue t r == v

/-! ## WellFormed -/

theorem test_wf_refuses_wide_frame_channel : Instr.wf (.frame 256) = false := by decide
theorem test_wf_refuses_wide_read_channel : Instr.wf (.read 256) = false := by decide
theorem test_wf_refuses_wide_sample_channel : Instr.wf (.sample 256) = false := by decide
theorem test_wf_refuses_wide_value : Instr.wf (.trackPush 65536) = false := by decide
theorem test_wf_admits_the_field_ends : Instr.wf (.read 255) = true ∧ Instr.wf (.trackPush 65535) = true := by decide

/-! ## Decoding: R71 and R72 give OP in bits 3:0, CHAN in bits 15:8, VALUE in bits 31:16 -/

theorem test_decode_nop : decode (.cmd32 0xFFFFFF00#32) = .ok .nop := by decide
theorem test_decode_frame : decode (.cmd32 0x00000501#32) = .ok (.frame 5) := by decide
theorem test_decode_frame_ignores : decode (.cmd32 0xFFFF03F1#32) = .ok (.frame 3) := by decide
theorem test_decode_decode : decode (.cmd32 0x00000002#32) = .ok .decode := by decide
theorem test_decode_read : decode (.cmd32 0x00000303#32) = .ok (.read 3) := by decide
theorem test_decode_read_above_range : decode (.cmd32 0x0000FF03#32) = .ok (.read 255) := by decide
theorem test_decode_track_clear : decode (.cmd32 0x00000004#32) = .ok .trackClear := by decide
theorem test_decode_track_push : decode (.cmd32 0x01F40005#32) = .ok (.trackPush 500) := by decide
theorem test_decode_peak : decode (.cmd32 0x00000006#32) = .ok .peak := by decide
theorem test_decode_rescale : decode (.cmd32 0x00000007#32) = .ok .rescale := by decide
theorem test_decode_sample : decode (.cmd32 0x00000208#32) = .ok (.sample 2) := by decide
theorem test_decode_reserved9 : decode (.cmd32 0x00000009#32) = .ok .reserved9 := by decide
theorem test_decode_reservedA : decode (.cmd32 0x0000000A#32) = .ok .reservedA := by decide
theorem test_decode_reservedB : decode (.cmd32 0x0000000B#32) = .ok .reservedB := by decide
theorem test_decode_reservedC : decode (.cmd32 0x0000000C#32) = .ok .reservedC := by decide
theorem test_decode_reservedD : decode (.cmd32 0x0000000D#32) = .ok .reservedD := by decide
theorem test_decode_reservedE : decode (.cmd32 0x0000000E#32) = .ok .reservedE := by decide
theorem test_decode_reservedF : decode (.cmd32 0x0000000F#32) = .ok .reservedF := by decide
/-! The eight frames of R79 and V-S1. -/
theorem test_decode_ch0 : decode (.adcTx24 0x01#8 0x80#8 0x00#8) = .ok .adcSeCh0 := by decide
theorem test_decode_ch1 : decode (.adcTx24 0x01#8 0x90#8 0x00#8) = .ok .adcSeCh1 := by decide
theorem test_decode_ch2 : decode (.adcTx24 0x01#8 0xA0#8 0x00#8) = .ok .adcSeCh2 := by decide
theorem test_decode_ch3 : decode (.adcTx24 0x01#8 0xB0#8 0x00#8) = .ok .adcSeCh3 := by decide
theorem test_decode_ch4 : decode (.adcTx24 0x01#8 0xC0#8 0x00#8) = .ok .adcSeCh4 := by decide
theorem test_decode_ch5 : decode (.adcTx24 0x01#8 0xD0#8 0x00#8) = .ok .adcSeCh5 := by decide
theorem test_decode_ch6 : decode (.adcTx24 0x01#8 0xE0#8 0x00#8) = .ok .adcSeCh6 := by decide
theorem test_decode_ch7 : decode (.adcTx24 0x01#8 0xF0#8 0x00#8) = .ok .adcSeCh7 := by decide
theorem test_decode_refuses_differential :
    decode (.adcTx24 0x01#8 0x30#8 0x00#8) = .error (.notAChannelSelectFrame 0x01#8 0x30#8 0x00#8) := by decide
theorem test_decode_result : decode (.adcRx24 0x00#8 0x02#8 0xFF#8) = .ok (.adcResult 0x00#8 0x02#8 0xFF#8) := by decide
/-! Every constructor's encoding, from the same tables. -/
theorem test_encode_read : encode (.read 3) = .cmd32 0x00000303#32 := by decide
theorem test_encode_track_push : encode (.trackPush 500) = .cmd32 0x01F40005#32 := by decide
theorem test_encode_ch5 : encode .adcSeCh5 = .adcTx24 0x01#8 0xD0#8 0x00#8 := by decide

/-! ## Single steps -/

/-- X7: NOP clears an earlier code. -/
theorem test_nop : nextIs (exec .nop { State.reset with status := { State.reset.status with err := 5 } })
    (fun t => reads t .status 0x002#32) = true := by decide
/-- X6. -/
theorem test_reserved9 : nextIs (exec .reserved9 State.reset) (fun t => reads t .status 0x102#32) = true := by decide
/-- X6. -/
theorem test_reservedF : nextIs (step (accepted 0x0000000F#32 State.reset))
    (fun t => reads t .status 0x102#32 && reads t .cmd 0x0000000F#32) = true := by decide
/-- FR3. -/
theorem test_frame : nextIs (step (accepted 0x00000501#32 State.reset))
    (fun t => reads t .tx 0x01D000#32 && reads t .status 0x002#32) = true := by decide
/-- FR4. -/
theorem test_frame_channel8 : nextIs (step (accepted 0x00000801#32 State.reset))
    (fun t => reads t .tx 0 && reads t .status 0x202#32) = true := by decide
/-- DC14. -/
theorem test_decode_step : nextIs (exec .decode { State.reset with rx := 0xAA55AA#24 })
    (fun t => reads t .raw 426) = true := by decide
/-- DC4. -/
theorem test_decode_step_ignored : nextIs (exec .decode { State.reset with rx := 0xFFFC00#24, raw := 9 })
    (fun t => reads t .raw 0) = true := by decide
/-- RD1, the issue. -/
theorem test_read_issue : nextIs (step (accepted 0x00000303#32 State.reset))
    (fun t => t == { readWaiting with env := t.env }) = true := by decide
/-- RD5. -/
theorem test_read_channel8 : nextIs (step (accepted 0x00000803#32 State.reset))
    (fun t => reads t .tx 0 && reads t .status 0x202#32 && !t.pending) = true := by decide
/-- RD1, the completion. -/
theorem test_read_ok : nextIs (step (readAnswered (.ok 0x00#8 0x02#8 0xFF#8)))
    (fun t => reads t .rx 0x0002FF#32 && reads t .raw 767 && reads t .status 0x002#32) = true := by decide
/-- RD4. -/
theorem test_read_fail : nextIs (step (readAnswered .fail))
    (fun t => reads t .rx 0 && reads t .raw 0 && reads t .tx 0x01B000#32 && reads t .status 0x302#32) = true := by decide
/-- The example of R134, from T11's tracker (TP5). -/
theorem test_track_clear : nextIs (exec .trackClear (trackerAfter .sentinel [100, 200, 300]))
    (fun t => reads t .readMin 1024 && reads t .readMax 0 && reads t .count 0) = true := by decide
/-- The example of R135. -/
theorem test_track_push : nextIs (exec (.trackPush 500) State.reset)
    (fun t => reads t .readMax 500 && reads t .readMin 1024 && reads t .count 1) = true := by decide
/-- T4: the first sample sets both bounds. -/
theorem test_track_push_first : nextIs (exec (.trackPush 0) (trackerAfter .firstSample []))
    (fun t => reads t .readMax 0 && reads t .readMin 0 && reads t .count 1) = true := by decide
/-- TP1. -/
theorem test_track_push_1024 : nextIs (step (accepted 0x04000005#32 State.reset))
    (fun t => reads t .count 0 && reads t .status 0x402#32) = true := by decide
/-- TP6. -/
theorem test_count_saturates : satInc32 0xFFFFFFFF#32 = 0xFFFFFFFF#32 := by decide
/-- T7. -/
theorem test_peak_negative : nextIs (exec .peak (trackerAfter .sentinel [600]))
    (fun t => reads t .p2p 0xFFFFFE58#32 && reads t .status 0x00A#32) = true := by decide
/-- T1. -/
theorem test_peak_empty : nextIs (exec .peak State.reset)
    (fun t => reads t .p2p 0 && reads t .status 0x006#32) = true := by decide
/-- T9 and T10. -/
theorem test_peak_both_modes :
    nextIs (exec .peak (trackerAfter .sentinel [5, 7, 6])) (fun t => reads t .p2p 1) = true ∧
    nextIs (exec .peak (trackerAfter .firstSample [5, 7, 6])) (fun t => reads t .p2p 2) = true := by decide
/-- RS29: the largest magnitudes, a negative fraction rounded up. -/
theorem test_rescale : nextIs (exec .rescale (rescaling 0xFFFFFC01#32 0 1024 0 0x7FFFFFFF#32))
    (fun t => reads t .result 0x80200001#32 && reads t .status 0x002#32) = true := by decide
/-- RS34 and RS35: RESULT keeps its value. -/
theorem test_rescale_errors :
    nextIs (exec .rescale (rescaling 0x80000000#32 0 0xFFFFFFFF#32 0 1))
      (fun t => reads t .result 77 && reads t .status 0x702#32) = true ∧
    nextIs (exec .rescale (rescaling 5 5 5 0 100))
      (fun t => reads t .result 77 && reads t .status 0x602#32) = true := by decide
/-- S12 and S13: the order of the checks. -/
theorem test_sample_errors :
    nextIs (exec (.sample 9) { State.reset with scaleMax := 0xFFFFFFFF#32 }) (fun t => reads t .status 0x202#32) = true ∧
    nextIs (exec (.sample 0) { State.reset with scaleMax := 0xFFFFFFFF#32 }) (fun t => reads t .status 0x502#32) = true := by
  decide
/-- P5: the start latches the time and clears the tracker. -/
theorem test_sample_start :
    nextIs (exec (.sample 2) { trackerAfter .sentinel [5, 7] with env := { State.reset.env with clock := 10 } })
      (fun t => t.t0 == 10 && reads t .count 0 && reads t .readMin 1024 && t.phase == .sampleCheck) = true := by decide
/-- S6's boundary: elapsed 49 reads, elapsed 50 finishes (R174). -/
theorem test_window_boundary :
    nextIs (step (sampleChecking 59)) (fun t => t.pending && reads t .tx 0x01A000#32) = true ∧
    nextIs (step (sampleChecking 60)) (fun t => reads t .status 0x006#32 && reads t .result 0) = true := by decide
/-- P3: P2P -724 gives RESULT -70. -/
theorem test_window_finish :
    nextIs (step { sampleChecking 60 with tracker := pushes .sentinel [100, 200, 300] trackClear })
      (fun t => reads t .p2p 0xFFFFFD2C#32 && reads t .result 0xFFFFFFBA#32 && reads t .status 0x00A#32) = true := by decide
/-- P5: the first read. -/
theorem test_sample_push : nextIs (step (sampleAnswered (.ok 0x00#8 0x02#8 0x58#8)))
    (fun t => reads t .rx 0x000258#32 && reads t .raw 600 && reads t .readMax 600 && reads t .count 1 &&
      t.phase == .sampleCheck) = true := by decide
/-- S11: the abort. -/
theorem test_sample_fail : nextIs (step (sampleAnswered .fail))
    (fun t => reads t .status 0x302#32 && reads t .count 0 && reads t .p2p 0) = true := by decide
/-- R108: the next answer of the queue is delivered. -/
theorem test_bus_answers :
    nextIs (exec .adcSeCh3 { readWaiting with env := { State.reset.env with busQueue := [.ok 1#8 2#8 3#8, .fail] } })
      (fun t => t.bus == .answered (.ok 1#8 2#8 3#8) && t.env.busQueue == [.fail]) = true := by decide
/-- R231: an inbound frame has no effect in IDLE. -/
theorem test_result_while_idle : nextIs (exec (.adcResult 0#8 3#8 0xFF#8) State.reset) (fun t => t == State.reset) = true := by
  decide
/-- X1, X3 and X4. -/
theorem test_host_port :
    hostRead 18 readWaiting = 0 ∧ hostRead 255 readWaiting = 0 ∧
    hostRead 0 (hostWrite 0 0xFFFFFFFF#32 State.reset) = 1 ∧
    hostRead 6 (hostWrite 6 0xFFFFFFFF#32 State.reset) = 0x00FFFFFF#32 := by decide
/-- X2, X8 and X10. -/
theorem test_host_drops :
    hostWrite 7 5 State.reset = State.reset ∧
    hostRead 1 (hostWrite 2 0 readWaiting) = 0x011#32 ∧ hostRead 2 (hostWrite 2 0 readWaiting) = 0x303#32 ∧
    hostRead 1 (hostWrite 1 0x10#32 (hostWrite 4 7 readWaiting)) = 0x001#32 := by decide
/-- X13, from a hung READ (P9). -/
theorem test_reset_step : nextIs (step (withTurns [.platform] readWaiting)) (fun t => t == State.reset) = true := by decide

/-! ## The host's two functions on opcode-table rows -/

theorem test_table_word_sample : decodeTableWord 32 0x00000208 = some (.sample 2) := by decide
theorem test_table_word_frame : decodeTableWord 24 0x01E000 = some .adcSeCh6 := by decide
theorem test_fetch_word_frame : nextIs (step (State.withFetchWord State.reset 32 0x00000501))
    (fun t => reads t .tx 0x01D000#32) = true := by decide
theorem test_fetch_word_result : nextIs (step (State.withFetchWord State.reset 24 0x0002FF))
    (fun t => reads t .raw 767 && reads t .status 0x002#32) = true := by decide

/-! ## Witnesses: a state and operands that meet the hypotheses of each statement that has some -/

/-- The invariant on the states of the tests. -/
theorem blockInv_accepted (w : Word) : BlockInv (accepted w State.reset) := by
  refine ⟨⟨?_, ?_, ?_, ?_, ?_, ?_, ?_, ?_⟩, ⟨?_, ?_, ?_, ?_, ?_, ?_, ?_, ?_, ?_⟩⟩ <;>
    simp [accepted, withTurns, accept, State.reset, waiting, sampling, i32]

theorem blockInv_readWaiting : BlockInv readWaiting := by
  refine ⟨⟨?_, ?_, ?_, .inr ⟨3, by decide⟩, ?_, ?_, ?_, ?_⟩, ⟨?_, ?_, ?_, ?_, ?_, ?_, ?_, ?_, ?_⟩⟩ <;>
    first
    | (simp [readWaiting, accept, State.reset, waiting, sampling, i32]; done)
    | (rintro b0 b1 b2 ⟨⟩; decide)

theorem blockInv_sampleChecking (now : Nat) (h : 10 ≤ now) : BlockInv (sampleChecking now) := by
  refine ⟨⟨?_, ?_, ?_, ?_, ?_, ?_, ?_, ?_⟩, ⟨?_, ?_, ?_, ?_, fun _ => (by decide : opField 0x00000208#32 = 8),
    fun _ => (by decide : chanField 0x00000208#32 ≤ 7), ?_, fun _ => h, ?_⟩⟩ <;>
    simp [sampleChecking, accept, State.reset, waiting, sampling, i32]

theorem blockInv_sampleWaiting : BlockInv sampleWaiting := by
  refine ⟨⟨?_, ?_, ?_, .inr ⟨2, by decide⟩, ?_, ?_, ?_, ?_⟩, ⟨?_, ?_, ?_, ?_, fun _ => (by decide : opField 0x00000208#32 = 8), ?_, ?_, ?_, ?_⟩⟩ <;>
    first
    | (simp [sampleWaiting, sampleChecking, accept, State.reset, waiting, sampling, i32]; done)
    | (rintro b0 b1 b2 ⟨⟩; decide)
    | (intro; decide)

theorem test_witness_DecodeOfEncodeIsTheInstruction :
    Instr.wf (.sample 0) = true ∧ Instr.wf (.sample 255) = true ∧ Instr.wf (.trackPush 0) = true ∧
    Instr.wf (.trackPush 65535) = true ∧ Instr.wf .adcSeCh7 = true ∧ Instr.wf (.adcResult 0xFF#8 0xFF#8 0xFF#8) = true := by
  decide

/-- The two clauses: a frame; and words with the two operand masks and the third. -/
theorem test_witness_EncodeOfDecodeKeepsTheUsedFields :
    ((PortWord.adcTx24 0x01#8 0xF0#8 0x00#8).format ≠ .cmd32 ∧
      decode (.adcTx24 0x01#8 0xF0#8 0x00#8) = .ok .adcSeCh7) ∧
    decode (.cmd32 0xFFFFFFF8#32) = .ok (.sample 255) ∧ decode (.cmd32 0xFFFFFFF5#32) = .ok (.trackPush 65535) ∧
    decode (.cmd32 0xFFFFFFFF#32) = .ok .reservedF := by decide

theorem test_witness_IgnoredCommandFieldsHaveNoEffect :
    (0xFFFF00F0#32 &&& 0x0000000F#32 = 0 ∧ opField 0x00000303#32 = 3 ∧ 0xFFFF00F0#32 &&& 0x0000FF00#32 = 0) ∧
    (0x0000FFF0#32 &&& 0x0000000F#32 = 0 ∧ opField 0x01F40005#32 = 5 ∧ 0x0000FFF0#32 &&& 0xFFFF0000#32 = 0) ∧
    (0xFFFFFFF0#32 &&& 0x0000000F#32 = 0 ∧ opField 0x00000006#32 = 6) := by decide

/-- Its second clause: a running SAMPLE before a check. -/
theorem test_witness_IgnoredCommandFieldsHaveNoEffect_step :
    BlockInv (sampleChecking 59) ∧ opField (sampleChecking 59).cmd = 8 ∧ 0xFFFF00F0#32 &&& 0x0000000F#32 = 0 ∧
    0xFFFF00F0#32 &&& 0x0000FF00#32 = 0 ∧ ∃ t, blockTurn (sampleChecking 59) = .next t :=
  ⟨blockInv_sampleChecking 59 (by decide), by decide, by decide, by decide, _, rfl⟩

theorem test_witness_EmittedFramesAreTheEight :
    ∃ t, step (accepted 0x00000703#32 State.reset) = .next t ∧ t.bus = .issued 0x01#8 0xF0#8 0x00#8 ∧
      (accepted 0x00000703#32 State.reset).bus ≠ .issued 0x01#8 0xF0#8 0x00#8 :=
  ⟨_, rfl, by decide, by decide⟩

theorem test_witness_StepRunsTheAcceptedCommand :
    nextAgent (accepted 0x00000303#32 State.reset) = .block ∧ (accepted 0x00000303#32 State.reset).phase = .exec ∧
    decode (.cmd32 (accepted 0x00000303#32 State.reset).cmd) = .ok (.read 3) := by decide

theorem test_witness_StepRunsThePendingFrame :
    nextAgent (withTurns [.bus] readWaiting) = .bus ∧ (withTurns [.bus] readWaiting).pending = true ∧
    (withTurns [.bus] readWaiting).bus = .issued 0x01#8 0xB0#8 0x00#8 ∧
    decode (.adcTx24 0x01#8 0xB0#8 0x00#8) = .ok .adcSeCh3 := by decide

theorem test_witness_StepConsumesTheResponse :
    nextAgent (readAnswered (.ok 0#8 2#8 0xFF#8)) = .block ∧ waiting (readAnswered (.ok 0#8 2#8 0xFF#8)).phase ∧
    (readAnswered (.ok 0#8 2#8 0xFF#8)).bus = .answered (.ok 0#8 2#8 0xFF#8) ∧
    decode (.adcRx24 0#8 2#8 0xFF#8) = .ok (.adcResult 0#8 2#8 0xFF#8) :=
  ⟨by decide, .inl rfl, rfl, rfl⟩

/-- IDLE, and each waiting phase with the frame still on the bus. -/
theorem test_witness_BlockWithoutARowTakesNoStep :
    (nextAgent (withTurns [.block] State.reset) = .block ∧ (withTurns [.block] State.reset).phase = .idle) ∧
    (nextAgent (withTurns [.block] readWaiting) = .block ∧ waiting (withTurns [.block] readWaiting).phase ∧
      ∀ a, (withTurns [.block] readWaiting).bus ≠ .answered a) ∧
    (nextAgent sampleWaiting = .block ∧ waiting sampleWaiting.phase ∧ ∀ a, sampleWaiting.bus ≠ .answered a) :=
  ⟨by decide, ⟨by decide, .inl rfl, fun _ h => nomatch h⟩, ⟨by decide, .inr rfl, fun _ h => nomatch h⟩⟩

theorem test_witness_NopOnlyCompletes :
    State.reset.status.dropped = false ∧ State.reset.status.empty = false ∧ State.reset.status.neg = false := by decide

/-- Both ends of the reserved OPs. -/
theorem test_witness_ReservedOpsCompleteWithIllegalOp :
    (nextAgent (accepted 0x00000009#32 State.reset) = .block ∧ (accepted 0x00000009#32 State.reset).phase = .exec ∧
      9 ≤ opField (accepted 0x00000009#32 State.reset).cmd) ∧
    (nextAgent (accepted 0xFFFFFFFF#32 State.reset) = .block ∧ (accepted 0xFFFFFFFF#32 State.reset).phase = .exec ∧
      9 ≤ opField (accepted 0xFFFFFFFF#32 State.reset).cmd) ∧
    Instr.reservedF ∈ [Instr.reserved9, .reservedA, .reservedB, .reservedC, .reservedD, .reservedE, .reservedF] := by
  decide

theorem test_witness_DecodedSampleRange :
    (0xFF#8).extractLsb' 0 2 = (0x03#8).extractLsb' 0 2 ∧ decodeSample 0 0xFF#8 0xFF#8 = 1023 ∧
    decodeSample 0xFF#8 0xFC#8 0 = 0 := by decide

theorem test_witness_FrameBuildsTheChannelSelectFrame : 0 ≤ 7 ∧ 7 ≤ 7 := by decide

theorem test_witness_ReadIssuesTheFrame : (accepted 0x00000303#32 State.reset).pending = false := by decide

theorem test_witness_ReadCompletesOnOk : (readAnswered (.ok 0#8 2#8 0xFF#8)).phase = .readWait := by decide

theorem test_witness_ReadFailsOnFail :
    nextAgent (readAnswered .fail) = .block ∧ (readAnswered .fail).phase = .readWait ∧
    (readAnswered .fail).bus = .answered .fail := by decide

theorem test_witness_InvalidChannelIsRejected :
    7 < 8 ∧ Instr.frame 8 ∈ [Instr.frame 8, .read 8, .sample 8] ∧ Instr.sample 255 ∈ [Instr.frame 255, .read 255, .sample 255] := by
  decide

/-- The three clauses: a new maximum, a new minimum, neither; and the sentinels' ends. -/
theorem test_witness_TrackPushInSentinelMode :
    (1023 ≤ 1023 ∧ (trackerAfter .sentinel []).trkMode = .sentinel ∧
      (regValue (trackerAfter .sentinel []) .readMax).toNat < 1023) ∧
    (0 ≤ 1023 ∧ ¬ (regValue (trackerAfter .sentinel []) .readMax).toNat < 0 ∧
      0 < (regValue (trackerAfter .sentinel []) .readMin).toNat) ∧
    ((trackerAfter .sentinel [512, 512]).trkMode = .sentinel ∧
      ¬ (regValue (trackerAfter .sentinel [512, 512]) .readMax).toNat < 512 ∧
      ¬ 512 < (regValue (trackerAfter .sentinel [512, 512]) .readMin).toNat) := by decide

/-- The four clauses: the first sample, a new maximum, a new minimum, neither. -/
theorem test_witness_TrackPushInFirstSampleMode :
    (1023 ≤ 1023 ∧ (trackerAfter .firstSample []).trkMode = .firstSample ∧
      regValue (trackerAfter .firstSample []) .count = 0) ∧
    (regValue (trackerAfter .firstSample [5]) .count ≠ 0 ∧
      (regValue (trackerAfter .firstSample [5]) .readMax).toNat < 6) ∧
    (¬ (regValue (trackerAfter .firstSample [5]) .readMax).toNat < 4 ∧
      4 < (regValue (trackerAfter .firstSample [5]) .readMin).toNat) ∧
    (¬ (regValue (trackerAfter .firstSample [5]) .readMax).toNat < 5 ∧
      ¬ 5 < (regValue (trackerAfter .firstSample [5]) .readMin).toNat) := by decide

theorem test_witness_TrackPushRejectsALargeValue : 1023 < 1024 := by decide

/-- Both branches of PEAK. -/
theorem test_witness_PeakReportsTheSpan :
    regValue State.reset .count = 0 ∧ regValue (trackerAfter .sentinel [600]) .count ≠ 0 := by decide

/-- Records only (T11), a value that is no record (T9), one value (T7), equal values (T15). -/
theorem test_witness_SentinelModeLaws :
    (∀ k < 3, maxOfFirst [100, 200, 300] k < valueAt [100, 200, 300] k) ∧
    ¬ maxOfFirst [5, 7, 6] 2 < valueAt [5, 7, 6] 2 ∧
    [(600 : BitVec 10)].length = 1 ∧ [(600 : BitVec 10)] ≠ [] ∧
    (2 ≤ [(512 : BitVec 10), 512].length ∧ ∀ k < 2, valueAt [512, 512] k = valueAt [512, 512] 0) := by decide

theorem test_witness_FirstSampleModeLaws :
    [(512 : BitVec 10), 512] ≠ [] ∧ ∀ k < 2, valueAt [512, 512] k = valueAt [512, 512] 0 := by decide

theorem test_witness_CeilDivIsTheLeastIntegerAbove : (3 : Int) ≠ 0 ∧ (-3 : Int) ≠ 0 := by decide

theorem test_witness_RescaleIsTheExactCeiling : (1024 : Int) ≠ 0 ∧ (0 : Int) ≠ 10 := by decide

/-- An exact quotient (RS5), and a slope that is not negative with two ordered values. -/
theorem test_witness_RescaleLaws :
    (1024 : Int) ≠ 0 ∧ ((512 : Int) - 0) * (100 - 0) = 50 * (1024 - 0) ∧
    0 ≤ (((100 : Int) : Rat) - ((0 : Int) : Rat)) / (((1024 : Int) : Rat) - ((0 : Int) : Rat)) ∧ (1 : Int) ≤ 1023 := by
  norm_num

/-- Both ends of p and of s, and a negative p with a scale of 1. -/
theorem test_witness_SamplerRescaleNeverOverflows :
    ((-1024 : Int) ≤ -1024 ∧ (-1024 : Int) ≤ 1023 ∧ (0 : Int) ≤ 0 ∧ (0 : Int) ≤ 2 ^ 31 - 1) ∧
    ((-1024 : Int) ≤ 1023 ∧ (1023 : Int) ≤ 1023 ∧ (2 ^ 31 - 1 : Int) ≤ 2 ^ 31 - 1 ∧ (0 : Int) ≤ 1023) ∧
    ((-1023 : Int) ≤ -1 ∧ (-1 : Int) ≤ -1 ∧ (1 : Int) ≤ 1) := by norm_num

/-- The three outcomes: RS35, RS34 and RS32. -/
theorem test_witness_RescaleCommandOutcomes :
    regValue (rescaling 5 5 5 0 100) .rsSrcHi = regValue (rescaling 5 5 5 0 100) .rsSrcLo ∧
    (2 : Int) ^ 31 - 1 < rescaleOperands (rescaling 0x80000000#32 0 0xFFFFFFFF#32 0 1).rs ∧
    ¬ rescaleOperands (rescaling 0x80000000#32 0 1 0 1).rs < -2 ^ 31 := by decide

/-- A channel at its end, with a negative and with a zero scale. -/
theorem test_witness_SampleStartsTheWindow :
    7 ≤ 7 ∧ i32 (regValue (rescaling 0 0 0 0 0) .scaleMax) = 0 ∧ i32 0xFFFFFFFF#32 < 0 := by decide

/-- One millisecond inside the window. -/
theorem test_witness_WindowCheckIssuesAFrame :
    nextAgent (sampleChecking 59) = .block ∧ (sampleChecking 59).phase = .sampleCheck ∧
    (sampleChecking 59).pending = false ∧ chanField (sampleChecking 59).cmd ≤ 7 ∧
    ((sampleChecking 59).env.clock : Int) - (sampleChecking 59).t0 < (regValue (sampleChecking 59) .windowMs).toNat := by
  decide

/-- At the window's end. -/
theorem test_witness_WindowCheckFinishes :
    nextAgent (sampleChecking 60) = .block ∧ (sampleChecking 60).phase = .sampleCheck ∧
    ¬ (((sampleChecking 60).env.clock : Int) - (sampleChecking 60).t0 <
      (regValue (sampleChecking 60) .windowMs).toNat) := by decide

theorem test_witness_SamplePushesTheResponse : (sampleAnswered (.ok 0#8 2#8 0x58#8)).phase = .sampleWait := by decide

theorem test_witness_SampleAbortsOnFail :
    nextAgent (sampleAnswered .fail) = .block ∧ (sampleAnswered .fail).phase = .sampleWait ∧
    (sampleAnswered .fail).bus = .answered .fail := by decide

theorem test_witness_ZeroWindowReadsNothing :
    (withTurns [.block, .block] (accept 0x00000108#32 State.reset)).phase = .exec ∧
    decode (.cmd32 (withTurns [.block, .block] (accept 0x00000108#32 State.reset)).cmd) = .ok (.sample 1) ∧ 1 ≤ 7 ∧
    (withTurns [.block, .block] (accept 0x00000108#32 State.reset)).windowMs = 0 ∧
    0 ≤ i32 (withTurns [.block, .block] (accept 0x00000108#32 State.reset)).scaleMax ∧
    (withTurns [.block, .block] (accept 0x00000108#32 State.reset)).env.schedule = .block :: .block :: [] := by decide

/-- P2's window: reads at elapsed 0 and 10, and a check at elapsed 50. -/
def window : State :=
  { accept 0x00000008#32 State.reset with
    windowMs := 50, scaleMax := 100
    env := { State.reset.env with
      clock := 1000
      schedule := .block :: (readTurns [⟨0, 0, 1, 0xF4⟩, ⟨10, 0, 2, 8⟩] ++ [.timebase, .block])
      busQueue := [.ok 0 1 0xF4, .ok 0 2 8]
      tickQueue := [0, 10, 40] } }

theorem test_witness_SampleEndState :
    window.phase = .exec ∧ decode (.cmd32 window.cmd) = .ok (.sample (0 : Fin 8).val) ∧ 0 ≤ i32 window.scaleMax ∧
    window.pending = false ∧
    window.env.schedule = .block :: (readTurns [⟨0, 0, 1, 0xF4⟩, ⟨10, 0, 2, 8⟩] ++ (.timebase :: .block :: [])) ∧
    window.env.busQueue =
      [SampleRead.mk 0 0 1 0xF4, ⟨10, 0, 2, 8⟩].map (fun r => .ok r.rx0 r.rx1 r.rx2) ++ [] ∧
    window.env.tickQueue = [SampleRead.mk 0 0 1 0xF4, ⟨10, 0, 2, 8⟩].map SampleRead.tick ++ 40 :: [] ∧
    timeOf [⟨0, 0, 1, 0xF4⟩, ⟨10, 0, 2, 8⟩] < u32 window.windowMs ∧
    u32 window.windowMs ≤ timeOf [⟨0, 0, 1, 0xF4⟩, ⟨10, 0, 2, 8⟩] + 40 := by decide

/-- S5: no read at all, the first check at elapsed 50. -/
theorem test_witness_SampleEndState_noReads :
    ∃ s : State, s.phase = .exec ∧ decode (.cmd32 s.cmd) = .ok (.sample (1 : Fin 8).val) ∧ 0 ≤ i32 s.scaleMax ∧
      s.pending = false ∧ s.env.schedule = .block :: (readTurns [] ++ (.timebase :: .block :: [])) ∧
      s.env.busQueue = ([] : List SampleRead).map (fun r => .ok r.rx0 r.rx1 r.rx2) ++ [] ∧
      s.env.tickQueue = [].map SampleRead.tick ++ 50 :: [] ∧ u32 s.windowMs ≤ timeOf [] + 50 :=
  ⟨{ accept 0x00000108#32 State.reset with
      windowMs := 50, scaleMax := 100
      env := { State.reset.env with schedule := [.block, .timebase, .block], tickQueue := [50] } },
    by decide⟩

/-- A transfer runs past the window's end; the host takes a turn between. -/
theorem test_witness_SampleEndsAfterItsWindow :
    ∃ s : State, BlockInv s ∧ sampling s.phase ∧ u32 s.windowMs + s.t0 ≤ s.env.clock ∧
      s.env.schedule = [.bus, .host, .block, .block] ++ [] ∧
      Agent.platform ∉ [Agent.bus, .host, .block, .block] ∧
      [Agent.bus, .block, .block].Sublist [.bus, .host, .block, .block] := by
  refine ⟨withTurns [.bus, .host, .block, .block] { sampleWaiting with windowMs := 10 }, ?_, .inr rfl, by decide, rfl,
    by decide, by decide⟩
  have h := blockInv_sampleWaiting
  exact ⟨⟨h.range.raw, h.range.readMax, h.range.readMin, h.range.tx, h.range.p2p, h.range.err, h.range.busy,
    h.range.pending⟩, ⟨h.control.done, h.control.waitPending, h.control.busPending, h.control.busFrame,
    h.control.sampleOp, h.control.sampleChannel, h.control.sampleScale, h.control.sampleTime, h.control.counted⟩⟩

/-- A pending frame with a queued answer and with none, no frame pending, and one answered already. -/
theorem test_witness_BusAnswersThePendingFrameOnce :
    Instr.adcSeCh7 ∈ [Instr.adcSeCh0, .adcSeCh1, .adcSeCh2, .adcSeCh3, .adcSeCh4, .adcSeCh5, .adcSeCh6, .adcSeCh7] ∧
    (readWaiting.pending = true ∧ readWaiting.bus = .issued 0x01#8 0xB0#8 0x00#8 ∧ readWaiting.env.busQueue = []) ∧
    ({ readWaiting with env := { readWaiting.env with busQueue := [.fail] } } : State).env.busQueue = .fail :: [] ∧
    State.reset.pending = false ∧
    (readAnswered .fail).bus ≠ .issued 0x01#8 0xB0#8 0x00#8 := by decide

theorem test_witness_HangLastsUntilAnswerOrReset :
    waiting readWaiting.phase ∧ readWaiting.status.busy = true ∧ readWaiting.pending = true ∧
    readWaiting.bus = .issued 0x01#8 0xB0#8 0x00#8 ∧
    (withTurns [.host, .block, .timebase] readWaiting).env.schedule = [.host, .block, .timebase] ++ [] ∧
    Agent.bus ∉ [Agent.host, .block, .timebase] ∧ Agent.platform ∉ [Agent.host, .block, .timebase] :=
  ⟨.inl rfl, by decide⟩

theorem test_witness_HostReadReturnsTheRegister : 18 ≤ (18#8).toNat ∧ 18 ≤ (255#8).toNat := by decide

/-- Each clause of the cascade at the ends of its indices, idle and busy. -/
theorem test_witness_HostWriteCascade :
    ((5#8).toNat ∈ [5, 7, 8, 9, 10, 11, 12] ∧ (12#8).toNat ∈ [5, 7, 8, 9, 10, 11, 12] ∧ 18 ≤ (18#8).toNat) ∧
    ((0#8).toNat ∈ [0, 2, 3, 4, 6, 13, 14, 15, 16, 17] ∧ (17#8).toNat ∈ [0, 2, 3, 4, 6, 13, 14, 15, 16, 17] ∧
      readWaiting.status.busy = true) ∧
    (State.reset.status.busy = false ∧ (3#8).toNat ∈ [3, 4, 13, 14, 15, 16, 17] ∧
      (17#8).toNat ∈ [3, 4, 13, 14, 15, 16, 17]) := by decide

theorem test_witness_RepeatedWritesAreIdempotent : (17#8 : BitVec 8) ≠ 2 ∧ State.reset.status.busy = false := by decide

/-- The three clauses: a busy write, a step that clears DROPPED by the host, and one by reset. -/
theorem test_witness_DroppedIsStickyAndHarmless :
    (readWaiting.status.busy = true ∧ (17#8).toNat ∈ [0, 2, 3, 4, 6, 13, 14, 15, 16, 17]) ∧
    (∃ s t : State, step s = .next t ∧ s.status.dropped = true ∧ t.status.dropped = false ∧ nextAgent s = .host) ∧
    (∃ s t : State, step s = .next t ∧ s.status.dropped = true ∧ t.status.dropped = false ∧ nextAgent s = .platform) ∧
    ∃ t, blockTurn (sampleChecking 59) = .next t :=
  ⟨by decide,
    ⟨{ dropWrite readWaiting with env := { readWaiting.env with schedule := [.host], hostQueue := [.write 1 0x10#32] } },
      _, rfl, by decide, by decide, by decide⟩,
    ⟨withTurns [.platform] (dropWrite readWaiting), _, rfl, by decide, by decide, by decide⟩, _, rfl⟩

theorem test_witness_CmdWriteStartsTheCommand :
    ∃ s : State, nextAgent s = .host ∧ s.status.busy = false ∧ s.env.hostQueue = .write 2 0x00000303#32 :: [] :=
  ⟨{ State.reset with env := { State.reset.env with schedule := [.host], hostQueue := [.write 2 0x00000303#32] } },
    by decide⟩

theorem test_witness_ResetFromAnyState : nextAgent (withTurns [.platform] readWaiting) = .platform := by decide

/-- P9's reset, with the old response and the block after it; and a phase that does not wait. -/
theorem test_witness_LateResponseIsDiscarded :
    ¬ waiting State.reset.phase ∧
    (withTurns [.platform, .bus, .block] readWaiting).env.schedule = .platform :: ([.bus, .block] ++ []) ∧
    ∀ a ∈ [Agent.bus, .block], a = .bus ∨ a = .block ∨ a = .timebase :=
  ⟨by simp [waiting, State.reset], by decide⟩

theorem test_witness_EveryStepKeepsTheRangeAndControlRules :
    BlockInv (accepted 0x00000303#32 State.reset) ∧ ∃ t, step (accepted 0x00000303#32 State.reset) = .next t :=
  ⟨blockInv_accepted _, _, rfl⟩

theorem test_witness_NoStepStopsTheMachine : BlockInv readWaiting ∧ BlockInv sampleWaiting :=
  ⟨blockInv_readWaiting, blockInv_sampleWaiting⟩

theorem test_witness_MeasurementsChangeOnlyAtCompletion :
    ∃ t, step (sampleChecking 60) = .next t ∧ nextAgent (sampleChecking 60) ≠ .platform ∧
      t.status.empty ≠ (sampleChecking 60).status.empty :=
  ⟨_, rfl, by decide, by decide⟩

/-- A validation error and a transfer failure. -/
theorem test_witness_ErrorCompletionWritesOnlyStatus :
    (∃ t, step (accepted 0x00000803#32 State.reset) = .next t ∧ nextAgent (accepted 0x00000803#32 State.reset) = .block ∧
      (accepted 0x00000803#32 State.reset).phase ≠ .idle ∧ t.phase = .idle ∧ t.status.err ≠ 0) ∧
    (∃ t, step (sampleAnswered .fail) = .next t ∧ nextAgent (sampleAnswered .fail) = .block ∧
      (sampleAnswered .fail).phase ≠ .idle ∧ t.phase = .idle ∧ t.status.err ≠ 0) :=
  ⟨⟨_, rfl, by decide, by decide, by decide, by decide⟩, ⟨_, rfl, by decide, by decide, by decide, by decide⟩⟩

theorem test_witness_OperandsStandWhileBusy :
    ∃ t, step (sampleChecking 59) = .next t ∧ (sampleChecking 59).status.busy = true ∧
      nextAgent (sampleChecking 59) ≠ .platform :=
  ⟨_, rfl, by decide, by decide⟩

theorem test_witness_TimeNeverFalls :
    ∃ s t : State, step s = .next t ∧ s.env.clock < t.env.clock :=
  ⟨{ State.reset with env := { State.reset.env with schedule := [.timebase], tickQueue := [5] } }, _, rfl, by decide⟩

theorem test_witness_NoSecondFrameWhilePending :
    ∃ t, step (withTurns [.block] readWaiting) = .next t ∧ (withTurns [.block] readWaiting).pending = true ∧
      t.bus = .issued 0x01#8 0xB0#8 0x00#8 :=
  ⟨_, rfl, by decide, by decide⟩

/-- A finishing SAMPLE and a completing READ, each beside a state with other outputs left over. -/
theorem test_witness_ReadAndSampleAreStateless :
    (SameInputs (sampleChecking 60) { sampleChecking 60 with p2p := 5, result := 9, raw := 3 } ∧
      (sampleChecking 60).phase ≠ .idle ∧ opField (sampleChecking 60).cmd = 8 ∧ sampling (sampleChecking 60).phase ∧
      nextAgent (sampleChecking 60) = .block ∧ ∃ t, step (sampleChecking 60) = .next t) ∧
    (SameInputs (readAnswered (.ok 0#8 2#8 0xFF#8))
        { readAnswered (.ok 0#8 2#8 0xFF#8) with tracker := trackClear, t0 := 7, raw := 3 } ∧
      (readAnswered (.ok 0#8 2#8 0xFF#8)).phase = .readWait ∧ opField (readAnswered (.ok 0#8 2#8 0xFF#8)).cmd = 3 ∧
      nextAgent (readAnswered (.ok 0#8 2#8 0xFF#8)) = .block ∧
      ∃ t, step (readAnswered (.ok 0#8 2#8 0xFF#8)) = .next t) :=
  ⟨⟨⟨rfl, rfl, rfl, rfl, rfl, rfl, rfl, rfl, fun _ => rfl, fun _ => rfl⟩, by decide, by decide, .inl rfl, by decide, _, rfl⟩,
    ⟨⟨rfl, rfl, rfl, rfl, rfl, rfl, rfl, rfl, fun h => by simp [sampling, readAnswered, withTurns, readWaiting] at h,
      fun h => by simp [sampling, readAnswered, withTurns, readWaiting] at h⟩,
    by decide, by decide, by decide, _, rfl⟩⟩

end Sys2Proof.Tests
end

/-!
The numbers of the spec's scope chapter: the saturating increment (R11) and ceiling division (R10).
-/

namespace Sys2Proof.Machine

/-- The count held by `sat_inc32` (R11): only the value it saturates at could wrap, and there it does not add. -/
theorem satInc32_toNat (n : Word) :
    (satInc32 n).toNat = if n.toNat = 2 ^ 32 - 1 then n.toNat else n.toNat + 1 := by
  rw [satInc32]
  split
  case isTrue => rfl
  case isFalse hne =>
    have hlt := n.isLt
    have hone : (1 : Word).toNat = 1 := rfl
    rw [BitVec.toNat_add_of_lt (by omega), hone]

/-- Settles O28: R11's formula is what the model's increment does to the word's number. -/
theorem saturatingIncrement : Obligations.SaturatingIncrement :=
  satInc32_toNat

/-- R10's first line: a negative divisor is moved to the dividend. -/
theorem ceilDiv_of_neg (a : Int) {b : Int} (hb : b < 0) : ceilDiv a b = ceilDiv (-a) (-b) := by
  rw [ceilDiv, ceilDiv, if_pos hb, if_neg (by omega)]

/-- By a positive divisor, `ceil_div` is the rational ceiling: `ceilDiv_bounds` divided by the divisor. -/
theorem ceilDiv_eq_ceil_of_pos (a : Int) {b : Int} (hb : 0 < b) : ceilDiv a b = ⌈(a : ℚ) / b⌉ := by
  have hbq : (0 : ℚ) < b := by exact_mod_cast hb
  obtain ⟨hle, hlt⟩ := ceilDiv_bounds a b hb
  symm
  rw [Int.ceil_eq_iff, lt_div_iff₀ hbq, div_le_iff₀ hbq, sub_one_mul, sub_lt_iff_lt_add]
  exact ⟨by exact_mod_cast hlt, by exact_mod_cast hle⟩

/-- `ceil_div` is the rational ceiling, for a divisor of either sign (R10). -/
theorem ceilDiv_eq_ceil (a : Int) {b : Int} (hb : b ≠ 0) : ceilDiv a b = ⌈(a : ℚ) / b⌉ := by
  rcases lt_or_gt_of_ne hb with hneg | hpos
  · rw [ceilDiv_of_neg a hneg, ceilDiv_eq_ceil_of_pos (-a) (neg_pos.mpr hneg), Int.cast_neg, Int.cast_neg,
      neg_div_neg_eq]
  · exact ceilDiv_eq_ceil_of_pos a hpos

/-- Settles O29: the rational ceiling is the least integer above; the rule's five examples are evaluated. -/
theorem ceilDivIsTheLeastIntegerAbove : Obligations.CeilDivIsTheLeastIntegerAbove := by
  refine ⟨fun a b hb => ?_, by decide⟩
  rw [ceilDiv_eq_ceil a hb]
  exact ⟨Set.mem_ofPred.mpr (Int.le_ceil _), fun c hc => Int.ceil_le.mpr (Set.mem_ofPred.mp hc)⟩

end Sys2Proof.Machine

/-!
The registers at reset and their hardwired bits (R41).
-/

namespace Sys2Proof.Machine

/-- The table of R41, register by register: READ_MIN alone starts at a value other than 0, its sentinel. -/
theorem regValue_reset (r : Reg) : regValue State.reset r = if r = .readMin then 1024 else 0 := by
  cases r <;> rfl

/-- The bits of a register above a field of `n` bits are hardwired 0: a mask with nothing in the field reads 0. -/
theorem setWidth_and_eq_zero {n : Nat} (x : BitVec n) {mask : Word} (hmask : mask.setWidth n = 0) :
    x.setWidth 32 &&& mask = 0 := by
  ext i hi
  by_cases hin : i < n
  case pos =>
    have hbit : mask.getLsbD i = false := by
      have h := congrArg (BitVec.getLsbD · i) hmask
      simpa [hin] using h
    simp [← BitVec.getLsbD_eq_getElem, hbit]
  case neg => simp [BitVec.getLsbD_of_ge x i (Nat.le_of_not_lt hin)]

/-- CTRL holds TRK_MODE in bit 0 and nothing else (R22). -/
theorem ctrlWord_and_hardwired (m : TrkMode) : ctrlWord m &&& 0xFFFFFFFE#32 = 0 := by
  cases m <;> rfl

/-- Bits 31:12 and 7:5 of STATUS hold nothing (R23): the mask, cut where `statusWord` puts its fields together, meets
each field in 0. -/
theorem statusWord_and_hardwired (f : Status) : statusWord f &&& 0xFFFFF0E0#32 = 0 := by
  have hmask : 0xFFFFF0E0#32 = 0xFFFFF#20 ++ 0#4 ++ 7#3 ++ 0#1 ++ 0#1 ++ 0#1 ++ 0#1 ++ 0#1 := rfl
  rw [hmask, statusWord, BitVec.and_append]
  simp only [BitVec.and_append, BitVec.zero_and, BitVec.and_zero]
  rfl

/-- Settles O49: the table of R41, and one mask per register for the bits that are 0 in every state. -/
theorem resetValues : Obligations.ResetValues := by
  refine ⟨regValue_reset, ⟨rfl, rfl, rfl⟩, fun s => ?_⟩
  exact ⟨ctrlWord_and_hardwired s.trkMode, statusWord_and_hardwired s.status, setWidth_and_eq_zero s.tx rfl,
    setWidth_and_eq_zero s.rx rfl, setWidth_and_eq_zero s.raw rfl, setWidth_and_eq_zero s.tracker.readMin rfl,
    setWidth_and_eq_zero s.tracker.readMax rfl⟩

end Sys2Proof.Machine

/-!
The host port: what a host read returns (R51) and the cascade of a host write (R52), stated on the registers that the
indices name.
-/

namespace Sys2Proof.Machine

/-! ## Registers and their indices -/

/-- The index of a register in the map of R21: what `regOfIndex` takes back to the register. -/
def regIndex : Reg → BitVec 8
  | .ctrl => 0
  | .status => 1
  | .cmd => 2
  | .windowMs => 3
  | .scaleMax => 4
  | .tx => 5
  | .rx => 6
  | .raw => 7
  | .readMin => 8
  | .readMax => 9
  | .count => 10
  | .p2p => 11
  | .result => 12
  | .rsValue => 13
  | .rsSrcLo => 14
  | .rsSrcHi => 15
  | .rsDstLo => 16
  | .rsDstHi => 17

@[simp] theorem regOfIndex_regIndex (r : Reg) : regOfIndex (regIndex r) = some r := by
  cases r <;> rfl

theorem eq_regIndex_of_regOfIndex {i : BitVec 8} {r : Reg} (h : regOfIndex i = some r) : i = regIndex r := by
  apply BitVec.eq_of_toNat_eq
  unfold regOfIndex at h
  split at h
  case h_19 => exact nomatch h
  all_goals cases h; assumption

theorem isSome_regOfIndex_iff : ∀ i : BitVec 8, (regOfIndex i).isSome ↔ i.toNat < 18 := by decide

/-- An index is a register's, or it is one of 18 to 255 (R21). -/
theorem eq_regIndex_or_ge (i : BitVec 8) : (∃ r, i = regIndex r) ∨ 18 ≤ i.toNat := by
  rcases Nat.lt_or_ge i.toNat 18 with hlt | hge
  · obtain ⟨r, hr⟩ := Option.isSome_iff_exists.mp ((isSome_regOfIndex_iff i).mpr hlt)
    exact .inl ⟨r, eq_regIndex_of_regOfIndex hr⟩
  · exact .inr hge

theorem regOfIndex_of_ge {i : BitVec 8} (hi : 18 ≤ i.toNat) : regOfIndex i = none := by
  rw [← Option.not_isSome_iff_eq_none, isSome_regOfIndex_iff]
  omega

/-- An index in a list of mapped ones is a register's. -/
theorem exists_reg_of_mem {i : BitVec 8} {l : List Nat} (hi : i.toNat ∈ l) (hl : ∀ n ∈ l, n < 18) :
    ∃ r, i = regIndex r ∧ (regIndex r).toNat ∈ l := by
  obtain ⟨r, rfl⟩ | hge := eq_regIndex_or_ge i
  · exact ⟨r, rfl, hi⟩
  · exact absurd (hl _ hi) (by omega)

/-- R52's list of read-only registers, by their indices. -/
theorem readOnly_iff_index (r : Reg) : readOnly r = true ↔ (regIndex r).toNat ∈ [5, 7, 8, 9, 10, 11, 12] := by
  cases r <;> decide

/-- The registers R52 drops writes to while busy, by their indices. -/
theorem writable_iff_index (r : Reg) :
    (r ≠ .status ∧ readOnly r = false) ↔ (regIndex r).toNat ∈ [0, 2, 3, 4, 6, 13, 14, 15, 16, 17] := by
  cases r <;> decide

/-- The registers of R52's last line, which take the whole word and start nothing, by their indices. -/
theorem wholeWord_iff_index (r : Reg) :
    (r ∉ [Reg.ctrl, .status, .cmd, .rx] ∧ readOnly r = false) ↔
      (regIndex r).toNat ∈ [3, 4, 13, 14, 15, 16, 17] := by
  cases r <;> decide

/-! ## Reads (R51) -/

@[simp] theorem hostRead_regIndex (r : Reg) (s : State) : hostRead (regIndex r) s = regValue s r := by
  simp [hostRead]

theorem hostRead_of_ge {i : BitVec 8} (hi : 18 ≤ i.toNat) (s : State) : hostRead i s = 0 := by
  simp [hostRead, regOfIndex_of_ge hi]

/-- TRK_MODE as bit 0 (R22). -/
theorem ctrlWord_eq (m : TrkMode) : ctrlWord m = if m = .firstSample then 1 else 0 := by
  cases m <;> rfl

/-- The flags of STATUS, shifted in one by one below ERR and the hardwired bits 7:5 (R23). -/
theorem statusWord_eq_concat (f : Status) :
    statusWord f =
      (((((0#20 ++ f.err ++ 0#3).concat f.dropped).concat f.neg).concat f.empty).concat f.done).concat f.busy := rfl

/-- The five flags of STATUS at bits 0 to 4 (R23). -/
theorem statusWord_flags (f : Status) :
    (statusWord f).getLsbD 0 = f.busy ∧ (statusWord f).getLsbD 1 = f.done ∧ (statusWord f).getLsbD 2 = f.empty ∧
      (statusWord f).getLsbD 3 = f.neg ∧ (statusWord f).getLsbD 4 = f.dropped := by
  simp only [statusWord_eq_concat, BitVec.getLsbD_concat_zero, BitVec.getLsbD_concat_succ, and_self]

/-- ERR at bits 11:8 of STATUS (R23): the six fields below it are cut off one by one. -/
theorem statusWord_err (f : Status) : (statusWord f).extractLsb' 8 4 = f.err := by
  rw [statusWord]
  iterate 6 rw [BitVec.extractLsb'_append_eq_of_le (by decide)]
  exact BitVec.extractLsb'_append_eq_right

/-- Settles O44: an index reads as its register does, STATUS field by field, and a narrow register as its own number. -/
theorem hostReadReturnsTheRegister : Obligations.HostReadReturnsTheRegister := by
  intro s
  have hstatus : hostRead 1 s = statusWord s.status := hostRead_regIndex .status s
  obtain ⟨hbusy, hdone, hempty, hneg, hdropped⟩ := statusWord_flags s.status
  refine ⟨fun i hi => hostRead_of_ge hi s, ctrlWord_eq s.trkMode, ?_, rfl, rfl, rfl, ?_, ?_, ?_, ?_, ?_,
    rfl, rfl, rfl, rfl, rfl, rfl, rfl, rfl, fun _ => rfl⟩
  · rw [hstatus]
    exact ⟨hbusy, hdone, hempty, hneg, hdropped, statusWord_err s.status, statusWord_and_hardwired s.status⟩
  all_goals exact BitVec.toNat_setWidth_of_le (by decide)

/-! ## Writes (R52) -/

theorem hostWrite_of_ge {i : BitVec 8} (hi : 18 ≤ i.toNat) (v : Word) (s : State) : hostWrite i v s = s := by
  simp [hostWrite, regOfIndex_of_ge hi]

/-- The cascade after its first line, on the register that the index names. -/
theorem hostWrite_regIndex {r : Reg} (hr : r ≠ .status) (v : Word) (s : State) :
    hostWrite (regIndex r) v s =
      if readOnly r then s else if s.status.busy then dropWrite s else storeReg r v s := by
  cases r
  case status => exact absurd rfl hr
  all_goals rfl

theorem hostWrite_of_readOnly {r : Reg} (hro : readOnly r = true) (v : Word) (s : State) :
    hostWrite (regIndex r) v s = s := by
  have hr : r ≠ .status := by rintro rfl; cases hro
  rw [hostWrite_regIndex hr, if_pos hro]

theorem hostWrite_of_busy {r : Reg} (hw : r ≠ .status ∧ readOnly r = false) (v : Word) {s : State}
    (hb : s.status.busy = true) : hostWrite (regIndex r) v s = dropWrite s := by
  obtain ⟨hr, hro⟩ := hw
  simp [hostWrite_regIndex hr, hro, hb]

theorem hostWrite_of_idle {r : Reg} (hw : r ≠ .status ∧ readOnly r = false) (v : Word) {s : State}
    (hb : s.status.busy = false) : hostWrite (regIndex r) v s = storeReg r v s := by
  obtain ⟨hr, hro⟩ := hw
  simp [hostWrite_regIndex hr, hro, hb]

/-- Every register stands in a field of its own, so a write that starts no command changes no other register. -/
theorem regValue_storeReg_of_ne {q r : Reg} (hcmd : r ≠ .cmd) (hne : q ≠ r) (v : Word) (s : State) :
    regValue (storeReg r v s) q = regValue s q := by
  have hfields : regValue (storeReg r v s) q = if q = r then regValue (storeReg r v s) q else regValue s q := by
    cases r
    case cmd => exact absurd rfl hcmd
    all_goals cases q <;> rfl
  exact hfields.trans (if_neg hne)

/-- The frame of a write that starts no command: the hidden state, the bus agent and everything outside the block. -/
theorem storeReg_frame {r : Reg} (hcmd : r ≠ .cmd) (v : Word) (s : State) :
    (storeReg r v s).phase = s.phase ∧ (storeReg r v s).t0 = s.t0 ∧ (storeReg r v s).pending = s.pending ∧
      (storeReg r v s).bus = s.bus ∧ (storeReg r v s).env = s.env := by
  cases r
  case cmd => exact absurd rfl hcmd
  all_goals exact ⟨rfl, rfl, rfl, rfl, rfl⟩

theorem storeReg_onlyRegsChange {r : Reg} (hcmd : r ≠ .cmd) (v : Word) (s : State) :
    OnlyRegsChange [r] s (storeReg r v s) := by
  obtain ⟨_, ht0, hpending, hbus, henv⟩ := storeReg_frame hcmd v s
  exact ⟨fun q hq => regValue_storeReg_of_ne hcmd (List.ne_of_not_mem_cons hq) v s, ht0, hpending, hbus, henv⟩

/-- A register of R52's last line holds the word written to it. -/
theorem regValue_storeReg_same {r : Reg} (hr : r ∉ [Reg.ctrl, .status, .cmd, .rx] ∧ readOnly r = false) (v : Word)
    (s : State) : regValue (storeReg r v s) r = v := by
  obtain ⟨hmem, hro⟩ := hr
  cases r
  case windowMs | scaleMax | rsValue | rsSrcLo | rsSrcHi | rsDstLo | rsDstHi => rfl
  case ctrl | status | cmd | rx => exact absurd (by decide) hmem
  all_goals exact nomatch hro

/-- What another index reads after a write that starts no command. -/
theorem hostRead_storeReg_of_ne {r : Reg} (hcmd : r ≠ .cmd) {j : BitVec 8} (hj : j ≠ regIndex r) (v : Word)
    (s : State) : hostRead j (storeReg r v s) = hostRead j s := by
  obtain ⟨q, rfl⟩ | hge := eq_regIndex_or_ge j
  · have hne : q ≠ r := fun h => hj (congrArg regIndex h)
    simp only [hostRead_regIndex, regValue_storeReg_of_ne hcmd hne]
  · simp only [hostRead_of_ge hge]

/-- CTRL keeps bit 0 of the word written (R52: `zext_32(v[0])`). -/
theorem ctrlWord_trkModeOf (v : Word) : ctrlWord (trkModeOf v) = v &&& 1 := by
  have hbit : v &&& 1 = (BitVec.ofBool (v.getLsbD 0)).setWidth 32 := BitVec.and_one_eq_setWidth_ofBool_getLsbD
  rw [hbit, trkModeOf]
  cases v.getLsbD 0 <;> rfl

/-- RX keeps bits 23:0 of the word written (R52: `zext_32(v[23:0])`). -/
theorem setWidth_24_32 (v : Word) : (v.setWidth 24).setWidth 32 = v &&& 0x00FFFFFF#32 := by
  apply BitVec.eq_of_toNat_eq
  have hmask : (0x00FFFFFF#32).toNat = 2 ^ 24 - 1 := rfl
  rw [BitVec.toNat_setWidth_of_le (by decide), BitVec.toNat_setWidth, BitVec.toNat_and, hmask,
    Nat.and_two_pow_sub_one_eq_mod]

/-- Settles O45: the cascade by registers, each line's list of indices turned into its class of registers. -/
theorem hostWriteCascade : Obligations.HostWriteCascade := by
  intro s i v
  refine ⟨?status, ?ignored, ?dropped, fun hidle => ⟨?ctrl, ?cmd, ?rx, ?wholeWord⟩⟩
  case status =>
    rintro rfl
    exact writeStatus_eq v s
  case ignored =>
    rintro (hi | hi)
    · obtain ⟨r, rfl, hr⟩ := exists_reg_of_mem hi (by decide)
      exact hostWrite_of_readOnly ((readOnly_iff_index r).mpr hr) v s
    · exact hostWrite_of_ge hi v s
  case dropped =>
    intro hi hbusy
    obtain ⟨r, rfl, hr⟩ := exists_reg_of_mem hi (by decide)
    exact hostWrite_of_busy ((writable_iff_index r).mpr hr) v hbusy
  case ctrl =>
    rintro rfl
    have hstore : hostWrite 0 v s = storeReg .ctrl v s := hostWrite_of_idle (r := .ctrl) (by decide) v hidle
    rw [hstore]
    exact ⟨ctrlWord_trkModeOf v, storeReg_onlyRegsChange (by decide) v s⟩
  case cmd =>
    rintro rfl
    exact hostWrite_of_idle (r := .cmd) (by decide) v hidle
  case rx =>
    rintro rfl
    have hstore : hostWrite 6 v s = storeReg .rx v s := hostWrite_of_idle (r := .rx) (by decide) v hidle
    rw [hstore]
    exact ⟨setWidth_24_32 v, storeReg_onlyRegsChange (by decide) v s⟩
  case wholeWord =>
    intro hi
    obtain ⟨r, rfl, hr⟩ := exists_reg_of_mem hi (by decide)
    obtain ⟨hmem, hro⟩ := (wholeWord_iff_index r).mpr hr
    have hstatus : r ≠ .status := by rintro rfl; exact hmem (by decide)
    have hcmd : r ≠ .cmd := by rintro rfl; exact hmem (by decide)
    rw [hostWrite_of_idle ⟨hstatus, hro⟩ v hidle, hostRead_regIndex]
    exact ⟨regValue_storeReg_same ⟨hmem, hro⟩ v s, fun j hj => hostRead_storeReg_of_ne hcmd hj v s,
      storeReg_frame hcmd v s⟩

end Sys2Proof.Machine

/-!
The fields of a command word: those its OP ignores have no effect (R74), and the reserved OPs end in ILLEGAL_OP (R73).
-/

namespace Sys2Proof.Machine

/-! ## Fields under a mask of ignored bits -/

/-- A field that lies inside a mask is not touched by flipping bits outside it. -/
theorem extractLsb'_xor_of_and_eq_zero {start len : Nat} {m mask : Word}
    (hmask : mask.extractLsb' start len = BitVec.allOnes len) (hm : m &&& mask = 0) (w : Word) :
    (w ^^^ m).extractLsb' start len = w.extractLsb' start len := by
  have hfield : m.extractLsb' start len = 0#len := by
    rw [← BitVec.and_allOnes (x := m.extractLsb' start len), ← hmask, ← BitVec.extractLsb'_and, hm]
    exact BitVec.extractLsb'_zero
  rw [BitVec.extractLsb'_xor, hfield, BitVec.xor_zero]

theorem opField_xor {m : Word} (hm : m &&& 0x0000000F#32 = 0) (w : Word) : opField (w ^^^ m) = opField w :=
  congrArg BitVec.toNat (extractLsb'_xor_of_and_eq_zero (by decide) hm w)

theorem chanField_xor {m : Word} (hm : m &&& 0x0000FF00#32 = 0) (w : Word) : chanField (w ^^^ m) = chanField w :=
  congrArg BitVec.toNat (extractLsb'_xor_of_and_eq_zero (by decide) hm w)

theorem valueField_xor {m : Word} (hm : m &&& 0xFFFF0000#32 = 0) (w : Word) : valueField (w ^^^ m) = valueField w :=
  congrArg BitVec.toNat (extractLsb'_xor_of_and_eq_zero (by decide) hm w)

/-- The decoder reads OP, CHAN for FRAME, READ and SAMPLE, and VALUE for TRACK_PUSH (R72). -/
theorem decodeCmd_congr {v w : Word} (hop : opField v = opField w)
    (hchan : opField w = 1 ∨ opField w = 3 ∨ opField w = 8 → chanField v = chanField w)
    (hvalue : opField w = 5 → valueField v = valueField w) : decodeCmd v = decodeCmd w := by
  unfold decodeCmd
  rw [hop]
  generalize opField w = op at hchan hvalue ⊢
  match op with
  | 1 => exact congrArg Instr.frame (hchan (by decide))
  | 3 => exact congrArg Instr.read (hchan (by decide))
  | 5 => exact congrArg Instr.trackPush (hvalue rfl)
  | 8 => exact congrArg Instr.sample (hchan (by decide))
  | 0 | 2 | 4 | 6 | 7 | 9 | 10 | 11 | 12 | 13 | 14 | _ + 15 => rfl

/-- Flipping bits that the word's OP ignores does not change the row it decodes to (R74). -/
theorem decodeCmd_xor {w m : Word} (hop : m &&& 0x0000000F#32 = 0)
    (hchan : opField w = 1 ∨ opField w = 3 ∨ opField w = 8 → m &&& 0x0000FF00#32 = 0)
    (hvalue : opField w = 5 → m &&& 0xFFFF0000#32 = 0) : decodeCmd (w ^^^ m) = decodeCmd w :=
  decodeCmd_congr (opField_xor hop w) (fun h => chanField_xor (hchan h) w) (fun h => valueField_xor (hvalue h) w)

/-! ## CMD is read by the execute step's decoder and by the window check alone -/

/-- The state with another word in CMD. -/
def setCmd (w : Word) (s : State) : State := { s with cmd := w }

/-- An outcome with its next state mapped, and a stop as it is. -/
def mapNext (f : State → State) : Result → Result
  | .next s => .next (f s)
  | .fault r => .fault r
  | .refused r => .refused r

/-- A meaning that neither reads CMD nor writes it: with another word in CMD it does the same, and leaves that word. -/
def CmdFree (f : State → Result) : Prop := ∀ (w : Word) (s : State), f (setCmd w s) = mapNext (setCmd w) (f s)

@[simp] theorem setCmd_cmd (w : Word) (s : State) : (setCmd w s).cmd = w := rfl
@[simp] theorem setCmd_scaleMax (w : Word) (s : State) : (setCmd w s).scaleMax = s.scaleMax := rfl
@[simp] theorem setCmd_rs (w : Word) (s : State) : (setCmd w s).rs = s.rs := rfl
@[simp] theorem setCmd_phase (w : Word) (s : State) : (setCmd w s).phase = s.phase := rfl
@[simp] theorem setCmd_pending (w : Word) (s : State) : (setCmd w s).pending = s.pending := rfl
@[simp] theorem setCmd_bus (w : Word) (s : State) : (setCmd w s).bus = s.bus := rfl
@[simp] theorem windowOpen_setCmd (w : Word) (s : State) : windowOpen (setCmd w s) = windowOpen s := rfl
@[simp] theorem fetchAnswer_setCmd (w : Word) (s : State) : fetchAnswer (setCmd w s) = fetchAnswer s := rfl

theorem issueFrame_cmdFree (ch : Fin 8) (wait : Phase) : CmdFree (issueFrame ch wait) := by
  intro w s
  rw [issueFrame, issueFrame, setCmd_pending]
  split <;> rfl

theorem answerFrame_cmdFree (ch : Fin 8) : CmdFree (answerFrame ch) := by
  intro w s
  rw [answerFrame, answerFrame, setCmd_pending, setCmd_bus]
  cases s.pending <;> cases s.bus <;> rfl

theorem execFrame_cmdFree (ch : Nat) : CmdFree (execFrame ch) := by
  intro w s
  rw [execFrame, execFrame]
  cases toChannel ch <;> rfl

theorem execRead_cmdFree (ch : Nat) : CmdFree (execRead ch) := by
  intro w s
  rw [execRead, execRead]
  cases toChannel ch with
  | none => rfl
  | some c => exact issueFrame_cmdFree c .readWait w s

theorem execTrackPush_cmdFree (v : Nat) : CmdFree (execTrackPush v) := by
  intro w s
  rw [execTrackPush, execTrackPush]
  split <;> rfl

theorem execRescale_cmdFree : CmdFree execRescale := by
  intro w s
  rw [execRescale, execRescale, setCmd_rs]
  split_ifs <;> rfl

theorem execSample_cmdFree (ch : Nat) : CmdFree (execSample ch) := by
  intro w s
  rw [execSample, execSample, setCmd_scaleMax]
  cases toChannel ch with
  | none => rfl
  | some c => dsimp only; split_ifs <;> rfl

theorem execAdcResult_cmdFree (b0 b1 b2 : Byte) : CmdFree (execAdcResult b0 b1 b2) := by
  intro w s
  rw [execAdcResult, execAdcResult, setCmd_phase]
  cases s.phase <;> rfl

theorem transferFailed_cmdFree : CmdFree transferFailed := by
  intro w s
  rw [transferFailed, transferFailed, setCmd_phase]
  cases s.phase <;> rfl

/-- No row of the opcode table reads CMD past its decoding. -/
theorem exec_cmdFree (i : Instr) : CmdFree (exec i) := by
  cases i with
  | frame ch => exact execFrame_cmdFree ch
  | read ch => exact execRead_cmdFree ch
  | trackPush v => exact execTrackPush_cmdFree v
  | rescale => exact execRescale_cmdFree
  | sample ch => exact execSample_cmdFree ch
  | adcSeCh0 | adcSeCh1 | adcSeCh2 | adcSeCh3 | adcSeCh4 | adcSeCh5 | adcSeCh6 | adcSeCh7 =>
    exact answerFrame_cmdFree _
  | adcResult b0 b1 b2 => exact execAdcResult_cmdFree b0 b1 b2
  | nop | decode | trackClear | peak => exact fun _ _ => rfl
  | reserved9 | reservedA | reservedB | reservedC | reservedD | reservedE | reservedF => exact fun _ _ => rfl

theorem waitStep_cmdFree : CmdFree waitStep := by
  intro w s
  rw [waitStep, waitStep, fetchAnswer_setCmd]
  match fetchAnswer s with
  | none => rfl
  | some (.ok b0 b1 b2) => exact execAdcResult_cmdFree b0 b1 b2 w s
  | some .fail => exact transferFailed_cmdFree w s

/-- The window check reads CHAN of CMD, and no more of it (R174). -/
theorem windowCheck_setCmd {w : Word} {s : State} (hchan : chanField w = chanField s.cmd) :
    windowCheck (setCmd w s) = mapNext (setCmd w) (windowCheck s) := by
  rw [windowCheck, windowCheck, windowOpen_setCmd, setCmd_cmd, hchan]
  cases windowOpen s with
  | false => rfl
  | true =>
    cases toChannel (chanField s.cmd) with
    | none => rfl
    | some c => exact issueFrame_cmdFree c .sampleWait w s

/-- The execute step runs the row CMD decodes to (R181). -/
theorem blockTurn_of_exec {s : State} (hp : s.phase = .exec) : blockTurn s = exec (decodeCmd s.cmd) s := by
  rw [blockTurn, hp]
  rfl

/-- A word in CMD that decodes to the same row, and names the same channel to a window check, makes the same block
step. -/
theorem blockTurn_setCmd {w : Word} {s : State} (hdecode : decodeCmd w = decodeCmd s.cmd)
    (hchan : s.phase = .sampleCheck → chanField w = chanField s.cmd) :
    blockTurn (setCmd w s) = mapNext (setCmd w) (blockTurn s) := by
  cases hp : s.phase with
  | exec =>
    rw [blockTurn_of_exec hp, blockTurn_of_exec ((setCmd_phase w s).trans hp), setCmd_cmd, hdecode]
    exact exec_cmdFree _ w s
  | idle =>
    rw [blockTurn, blockTurn, setCmd_phase, hp]
    rfl
  | readWait | sampleWait =>
    rw [blockTurn, blockTurn, setCmd_phase, hp]
    exact waitStep_cmdFree w s
  | sampleCheck =>
    rw [blockTurn, blockTurn, setCmd_phase, hp]
    exact windowCheck_setCmd (hchan hp)

/-- Settles O4: the decoder reads no ignored field, and the block steps alike; a window check is a SAMPLE's, by the
invariant, so that its CHAN is not among the ignored fields. -/
theorem ignoredCommandFieldsHaveNoEffect : Obligations.IgnoredCommandFieldsHaveNoEffect := by
  refine ⟨fun w m hop hchan hvalue => congrArg Except.ok (decodeCmd_xor hop hchan hvalue), ?blockStep, rfl, rfl⟩
  case blockStep =>
    intro s t m hinv hop hchan hvalue hturn
    have hcheck : s.phase = .sampleCheck → chanField (s.cmd ^^^ m) = chanField s.cmd := fun hp =>
      chanField_xor (hchan (.inr (.inr (hinv.control.sampleOp (.inl hp))))) s.cmd
    have hsame := blockTurn_setCmd (decodeCmd_xor hop hchan hvalue) hcheck
    rw [hturn] at hsame
    exact hsame

/-! ## Reserved OPs -/

/-- What completion with a code leaves in STATUS and PHASE (R171). -/
theorem complete_completed (e : Err) (s : State) : Completed (errCode e) s (complete e s) :=
  ⟨⟨rfl, rfl, rfl, rfl, rfl⟩, rfl, rfl⟩

/-- Completion writes no register but STATUS (R204). -/
theorem complete_onlyRegsChange (e : Err) (s : State) : OnlyRegsChange [.status] s (complete e s) where
  regs r hr := by
    cases r with
    | status => exact absurd List.mem_cons_self hr
    | _ => rfl
  t0 := rfl
  pending := rfl
  bus := rfl
  env := rfl

/-- The rows of the OPs 0x9 to 0xF (R73). -/
def reservedRows : List Instr :=
  [.reserved9, .reservedA, .reservedB, .reservedC, .reservedD, .reservedE, .reservedF]

/-- A reserved row runs no function and ends in ILLEGAL_OP (R73). -/
theorem exec_of_mem_reservedRows {i : Instr} (hi : i ∈ reservedRows) (s : State) :
    exec i s = .next (complete .illegalOp s) := by
  simp only [reservedRows, List.mem_cons, List.not_mem_nil, or_false] at hi
  rcases hi with rfl | rfl | rfl | rfl | rfl | rfl | rfl <;> rfl

/-- The OPs from 0x9 on decode to the reserved rows (R73). -/
theorem decodeCmd_mem_reservedRows {w : Word} (hop : 9 ≤ opField w) : decodeCmd w ∈ reservedRows := by
  unfold decodeCmd
  generalize opField w = op at hop ⊢
  match op with
  | 0 | 1 | 2 | 3 | 4 | 5 | 6 | 7 | 8 => omega
  | 9 | 10 | 11 | 12 | 13 | 14 | _ + 15 => simp [reservedRows]

/-- The step of the machine in EXEC, when it is the block's turn (R181). -/
theorem step_of_exec {s : State} (hturn : nextAgent s = .block) (hp : s.phase = .exec) :
    step s = exec (decodeCmd s.cmd) (afterTurn s) := by
  rw [step, hturn]
  exact blockTurn_of_exec (s := afterTurn s) hp

/-- Settles O11: every word decodes, the reserved OPs to the reserved rows, whose meaning is completion with code 1. -/
theorem reservedOpsCompleteWithIllegalOp : Obligations.ReservedOpsCompleteWithIllegalOp := by
  refine ⟨fun w => ⟨decodeCmd w, rfl⟩, ?acceptedWord, ?row⟩
  case acceptedWord =>
    intro s hturn hp hop
    refine ⟨complete .illegalOp (afterTurn s), ?_, complete_completed .illegalOp _, complete_onlyRegsChange _ _⟩
    rw [step_of_exec hturn hp]
    exact exec_of_mem_reservedRows (decodeCmd_mem_reservedRows hop) _
  case row =>
    intro s i hi
    exact ⟨complete .illegalOp s, exec_of_mem_reservedRows hi s, complete_completed .illegalOp s,
      complete_onlyRegsChange _ s⟩

end Sys2Proof.Machine

/-!
The framer and the decoder: the decoded sample (R101, R102), DECODE (R104), READ's two completions (R106, R107), and
the channels that FRAME, READ and SAMPLE reject (R111).
-/

namespace Sys2Proof.Machine

/-! ## The decoded sample -/

/-- The sample by its two digits (R101): bits 1:0 of byte 1 above the whole of byte 2. -/
theorem decodeSample_toNat_digits (rx0 rx1 rx2 : Byte) :
    (decodeSample rx0 rx1 rx2).toNat = (rx1.extractLsb' 0 2).toNat * 256 + rx2.toNat := by
  rw [decodeSample_toNat, BitVec.extractLsb'_toNat, Nat.shiftRight_zero]

/-- A sample has one pair of digits. -/
theorem decodeSample_toNat_eq_iff (rx0 rx1 rx2 : Byte) (hi : BitVec 2) (lo : Byte) :
    (decodeSample rx0 rx1 rx2).toNat = hi.toNat * 256 + lo.toNat ↔ rx1.extractLsb' 0 2 = hi ∧ rx2 = lo := by
  have hrx2 := rx2.isLt
  have hlo := lo.isLt
  rw [decodeSample_toNat_digits, ← BitVec.toNat_inj (y := hi), ← BitVec.toNat_inj (y := lo)]
  omega

/-- Byte 0 and bits 7:2 of byte 1 are not used (R102). -/
theorem decodeSample_congr {rx1 rx1' : Byte} (h : rx1'.extractLsb' 0 2 = rx1.extractLsb' 0 2) (rx0 rx0' rx2 : Byte) :
    decodeSample rx0' rx1' rx2 = decodeSample rx0 rx1 rx2 := by
  apply BitVec.eq_of_toNat_eq
  rw [decodeSample_toNat_digits, decodeSample_toNat_digits, h]

/-- R102's bound: ten bits. -/
theorem decodeSample_toNat_le (rx0 rx1 rx2 : Byte) : (decodeSample rx0 rx1 rx2).toNat ≤ 1023 :=
  Nat.le_of_lt_succ (decodeSample rx0 rx1 rx2).isLt

/-- Settles O13: both ends by the digits of 1023 and of 0. -/
theorem decodedSampleRange : Obligations.DecodedSampleRange := fun rx0 rx1 rx2 =>
  ⟨decodeSample_toNat_le rx0 rx1 rx2, decodeSample_toNat_eq_iff rx0 rx1 rx2 0b11#2 0xFF#8,
    decodeSample_toNat_eq_iff rx0 rx1 rx2 0b00#2 0x00#8, fun rx0' _ h => decodeSample_congr h rx0 rx0' rx2⟩

/-- The source's formula with an addition (R101). -/
theorem decodeSample_toNat_add (rx0 rx1 rx2 : Byte) :
    (decodeSample rx0 rx1 rx2).toNat = ((rx1.toNat &&& 3) <<< 8) + rx2.toNat := by
  have hmask : rx1.toNat &&& 3 = rx1.toNat % 4 := Nat.and_two_pow_sub_one_eq_mod rx1.toNat 2
  rw [decodeSample_toNat, hmask, Nat.shiftLeft_eq]

/-- The source's formula with an OR (R101): the shifted bits have bits 7:0 clear, so nothing is carried. -/
theorem decodeSample_toNat_or (rx0 rx1 rx2 : Byte) :
    (decodeSample rx0 rx1 rx2).toNat = ((rx1.toNat &&& 3) <<< 8) ||| rx2.toNat := by
  rw [decodeSample_toNat_add, Nat.shiftLeft_add_eq_or_of_lt rx2.isLt]

/-- Settles O14. -/
theorem decodeFormula : Obligations.DecodeFormula := fun rx0 rx1 rx2 =>
  ⟨decodeSample_toNat_or rx0 rx1 rx2, decodeSample_toNat_add rx0 rx1 rx2⟩

/-! ## RX and RAW as the host reads them -/

theorem regValue_rx_toNat (s : State) : (regValue s .rx).toNat = s.rx.toNat :=
  BitVec.toNat_setWidth_of_le (by decide)

theorem regValue_raw_toNat (s : State) : (regValue s .raw).toNat = s.raw.toNat :=
  BitVec.toNat_setWidth_of_le (by decide)

/-- A byte of a packed frame as a number (R28, R104). -/
theorem byteOf_toNat (f : Frame24) (k : Nat) : (byteOf f k).toNat = f.toNat / 2 ^ (16 - 8 * k) % 256 := by
  rw [byteOf, BitVec.extractLsb'_toNat, Nat.shiftRight_eq_div_pow]

/-! ## Completion after a command's own writes -/

/-- Completion leaves its code in STATUS, whatever other registers the command has written before (R171). -/
theorem complete_completed_of_status_eq {s u : State} (h : u.status = s.status) (e : Err) :
    Completed (errCode e) s (complete e u) := by
  refine ⟨⟨rfl, rfl, rfl, ?dropped, rfl⟩, ?empty, ?neg⟩ <;> rw [complete_status, h]

/-- A register that the command has kept, other than STATUS, is kept past its completion (R171). -/
theorem regValue_complete_of_not_mem {regs : List Reg} {s u : State}
    (h : ∀ r, r ∉ regs → regValue u r = regValue s r) (e : Err) :
    ∀ r, r ∉ regs ++ [.status] → regValue (complete e u) r = regValue s r := by
  intro r hr
  rw [List.mem_append, not_or] at hr
  obtain ⟨hregs, hstatus⟩ := hr
  exact ((complete_onlyRegsChange e u).regs r hstatus).trans (h r hregs)

/-- Completion adds STATUS to the registers a command has written (R171). -/
theorem OnlyRegsChange.then_complete {regs : List Reg} {s u : State} (h : OnlyRegsChange regs s u) (e : Err) :
    OnlyRegsChange (regs ++ [.status]) s (complete e u) where
  regs := regValue_complete_of_not_mem h.regs e
  t0 := h.t0
  pending := h.pending
  bus := h.bus
  env := h.env

/-- The same for a command that has moved the bus port. -/
theorem OnlyRegsAndBusChange.then_complete {regs : List Reg} {s u : State}
    (h : OnlyRegsAndBusChange regs s u) (e : Err) :
    OnlyRegsAndBusChange (regs ++ [.status]) s (complete e u) where
  regs := regValue_complete_of_not_mem h.regs e
  t0 := h.t0
  env := h.env

/-! ## DECODE -/

/-- The state with another sample in RAW. -/
def setRaw (v : BitVec 10) (s : State) : State := { s with raw := v }

@[simp] theorem setRaw_status (v : BitVec 10) (s : State) : (setRaw v s).status = s.status := rfl

theorem setRaw_onlyRegsChange (v : BitVec 10) (s : State) : OnlyRegsChange [.raw] s (setRaw v s) where
  regs r hr := by
    cases r with
    | raw => exact absurd List.mem_cons_self hr
    | _ => rfl
  t0 := rfl
  pending := rfl
  bus := rfl
  env := rfl

/-- The sample of a packed frame: its bits 9:0 (R28, R101). -/
theorem decodeSample_byteOf_toNat (f : Frame24) :
    (decodeSample (byteOf f 0) (byteOf f 1) (byteOf f 2)).toNat = f.toNat / 256 % 4 * 256 + f.toNat % 256 := by
  rw [decodeSample_toNat, byteOf_toNat, byteOf_toNat]
  omega

/-- DECODE is one write to RAW and a completion (R104). -/
theorem exec_decode (s : State) :
    exec .decode s = .next (complete .none (setRaw (decodeSample (byteOf s.rx 0) (byteOf s.rx 1) (byteOf s.rx 2)) s)) :=
  rfl

/-- Settles O16: RAW takes the sample in RX, by RX's number. -/
theorem decodeTakesTheSampleInRx : Obligations.DecodeTakesTheSampleInRx := by
  refine ⟨rfl, fun s => ⟨_, exec_decode s, ?raw, complete_completed_of_status_eq (setRaw_status _ s) .none,
    (setRaw_onlyRegsChange _ s).then_complete .none⟩⟩
  rw [regValue_raw_toNat, regValue_rx_toNat]
  exact decodeSample_byteOf_toNat s.rx

/-! ## READ's completions -/

/-- Consuming a response moves the bus port alone (R58). -/
theorem consume_onlyRegsAndBusChange (s : State) : OnlyRegsAndBusChange [] s (consume s) where
  regs r _ := by cases r <;> rfl
  t0 := rfl
  env := rfl

/-- Receiving a response writes RX and RAW, and moves the bus port (R106, R175). -/
theorem receive_onlyRegsAndBusChange (rx0 rx1 rx2 : Byte) (s : State) :
    OnlyRegsAndBusChange [.rx, .raw] s (receive rx0 rx1 rx2 s) where
  regs r hr := by
    cases r with
    | rx | raw => exact absurd (by decide) hr
    | _ => rfl
  t0 := rfl
  env := rfl

/-- READ's row for an inbound frame (R106). -/
theorem exec_adcResult_of_readWait {s : State} (hp : s.phase = .readWait) (rx0 rx1 rx2 : Byte) :
    exec (.adcResult rx0 rx1 rx2) s = .next (complete .none (receive rx0 rx1 rx2 s)) := by
  rw [exec, execAdcResult, hp, readComplete]

/-- Settles O18: the response is received and the command completes. -/
theorem readCompletesOnOk : Obligations.ReadCompletesOnOk := by
  intro s rx0 rx1 rx2 hp
  refine ⟨_, exec_adcResult_of_readWait hp rx0 rx1 rx2, ?rx, ?raw, ?range, rfl, rfl,
    complete_completed_of_status_eq (receive_status rx0 rx1 rx2 s) .none,
    (receive_onlyRegsAndBusChange rx0 rx1 rx2 s).then_complete .none⟩
  case rx =>
    rw [regValue_rx_toNat]
    exact pack24_toNat rx0 rx1 rx2
  case raw =>
    rw [regValue_raw_toNat]
    exact decodeSample_toNat_or rx0 rx1 rx2
  case range =>
    rw [regValue_raw_toNat]
    exact decodeSample_toNat_le rx0 rx1 rx2

/-- The machine's step when it is the block's turn (R62). -/
theorem step_of_block {s : State} (hturn : nextAgent s = .block) : step s = blockTurn (afterTurn s) := by
  rw [step, hturn, turn]

/-- A waiting block whose transfer has failed ends its command (R107, R176). -/
theorem blockTurn_of_fail {s : State} (hp : waiting s.phase) (hbus : s.bus = .answered .fail) :
    blockTurn s = .next (complete .transferFailure (consume s)) := by
  have hanswer : fetchAnswer s = some .fail := by rw [fetchAnswer, hbus]
  rcases hp with hp | hp
  case inl => rw [blockTurn, hp, waitStep, hanswer, transferFailed, hp, readFailed]
  case inr => rw [blockTurn, hp, waitStep, hanswer, transferFailed, hp, sampleAborted]

/-- Settles O19: the FAIL is consumed and the command completes, with no write to TX, RX or RAW. -/
theorem readFailsOnFail : Obligations.ReadFailsOnFail := by
  intro s hturn hp hbus
  have hstep : step s = .next (complete .transferFailure (consume (afterTurn s))) :=
    (step_of_block hturn).trans (blockTurn_of_fail (s := afterTurn s) (.inl hp) hbus)
  exact ⟨_, hstep, rfl, rfl, complete_completed_of_status_eq (consume_status (afterTurn s)) .transferFailure,
    (consume_onlyRegsAndBusChange (afterTurn s)).then_complete .transferFailure⟩

/-! ## Channels above 7 -/

/-- A channel is valid exactly up to 7 (R111). -/
theorem toChannel_isValid_iff (ch : Nat) : (∃ c, toChannel ch = some c ∧ c.val = ch) ↔ ch ≤ 7 := by
  constructor
  · rintro ⟨c, -, rfl⟩
    exact Nat.le_of_lt_succ c.isLt
  · exact fun h => ⟨_, toChannel_of_le h, rfl⟩

/-- The commands that take a channel check it before they do anything else (R111, R203). -/
theorem exec_of_invalid_channel {ch : Nat} (h : 7 < ch) {i : Instr}
    (hi : i ∈ [Instr.frame ch, .read ch, .sample ch]) (s : State) :
    exec i s = .next (complete .invalidChannel s) := by
  have hnone := toChannel_of_gt h
  simp only [List.mem_cons, List.not_mem_nil, or_false] at hi
  rcases hi with rfl | rfl | rfl
  · rw [exec, execFrame, hnone]
  · rw [exec, execRead, hnone]
  · rw [exec, execSample, hnone]

/-- Settles O20: the rejected command is a completion and nothing else. -/
theorem invalidChannelIsRejected : Obligations.InvalidChannelIsRejected :=
  ⟨toChannel_isValid_iff, fun s _ h _ hi => ⟨_, exec_of_invalid_channel h hi s,
    complete_completed .invalidChannel s, complete_onlyRegsChange .invalidChannel s⟩⟩

end Sys2Proof.Machine

/-!
The tracker's commands: TRACK_CLEAR (R131, R134), TRACK_PUSH of a value in range in either mode (R132, R133), and PEAK
(R136, R137).
-/

namespace Sys2Proof.Machine

/-! ## The tracker's registers as the host reads them -/

@[simp] theorem regValue_readMin_toNat (s : State) : (regValue s .readMin).toNat = s.tracker.readMin.toNat :=
  BitVec.toNat_setWidth_of_le (by decide)

@[simp] theorem regValue_readMax_toNat (s : State) : (regValue s .readMax).toNat = s.tracker.readMax.toNat :=
  BitVec.toNat_setWidth_of_le (by decide)

@[simp] theorem regValue_count (s : State) : regValue s .count = s.tracker.count := rfl

/-- A bound that holds a sample reads as the sample's number (R30, R31). -/
theorem setWidth_sample {v : Nat} (hv : v ≤ 1023) :
    ((BitVec.ofNat 10 v).setWidth 11).setWidth 32 = BitVec.ofNat 32 v := by
  apply BitVec.eq_of_toNat_eq
  simp only [BitVec.toNat_setWidth, BitVec.toNat_ofNat]
  omega

/-- The registers of the tracker and nothing else. -/
theorem setTracker_onlyRegsChange (tr : Tracker) (s : State) :
    OnlyRegsChange [.readMin, .readMax, .count] s { s with tracker := tr } where
  regs r hr := by
    cases r with
    | readMin | readMax | count => exact absurd (by decide) hr
    | _ => rfl
  t0 := rfl
  pending := rfl
  bus := rfl
  env := rfl

/-! ## TRACK_CLEAR -/

/-- TRACK_CLEAR is one clear and a completion (R134). -/
theorem exec_trackClear (s : State) : exec .trackClear s = .next (complete .none (clearTracker s)) := rfl

/-- Settles O21: the sentinels are read off the cleared tracker. -/
theorem trackClearRestoresTheSentinels : Obligations.TrackClearRestoresTheSentinels :=
  ⟨rfl, fun s => ⟨_, exec_trackClear s, rfl, rfl, rfl,
    complete_completed_of_status_eq (clearTracker_status s) .none,
    (setTracker_onlyRegsChange trackClear s).then_complete .none⟩⟩

/-! ## TRACK_PUSH -/

/-- TRACK_PUSH of a value in range is one push and a completion (R135). -/
theorem exec_trackPush_of_le {v : Nat} (hv : v ≤ 1023) (s : State) :
    exec (.trackPush v) s = .next (complete .none (pushSample (BitVec.ofNat 10 v) s)) :=
  if_neg (Nat.not_lt.mpr hv)

/-- COUNT after a push, in either mode (R132 with R11). -/
theorem satInc32_toNat_eq_min (n : Word) : (satInc32 n).toNat = min (n.toNat + 1) (2 ^ 32 - 1) := by
  have hlt := n.isLt
  rw [satInc32_toNat]
  split <;> omega

/-- What TRACK_PUSH does in either mode: the tracker is pushed, COUNT saturates, the command completes, and nothing else
changes. -/
theorem exec_trackPush_spec {v : Nat} (hv : v ≤ 1023) (s : State) :
    ∃ t, exec (.trackPush v) s = .next t ∧
      t.tracker = trackPush s.trkMode (BitVec.ofNat 10 v) s.tracker ∧
      (regValue t .count).toNat = min ((regValue s .count).toNat + 1) (2 ^ 32 - 1) ∧
      Completed 0 s t ∧ OnlyRegsChange [.readMin, .readMax, .count, .status] s t :=
  ⟨_, exec_trackPush_of_le hv s, rfl, satInc32_toNat_eq_min s.tracker.count,
    complete_completed_of_status_eq (pushSample_status (BitVec.ofNat 10 v) s) .none,
    (setTracker_onlyRegsChange (trackPush s.trkMode (BitVec.ofNat 10 v) s.tracker) s).then_complete .none⟩

/-- A push is the else-if of R132 and the count, but for the first sample of FIRST_SAMPLE mode (R132, R133). -/
theorem trackPush_eq_trackCompare {m : TrkMode} {t : Tracker} (h : m = .firstSample → t.count ≠ 0) (v : BitVec 10) :
    trackPush m v t = { trackCompare v t with count := satInc32 t.count } := by
  cases m with
  | sentinel => rfl
  | firstSample => rw [trackPush, trackBounds, if_neg (h rfl)]

/-- The first sample of FIRST_SAMPLE mode sets both bounds (R133). -/
theorem trackPush_of_first {t : Tracker} (h : t.count = 0) (v : BitVec 10) :
    trackPush .firstSample v t = { readMin := v.setWidth 11, readMax := v.setWidth 11, count := satInc32 t.count } := by
  rw [trackPush, trackBounds, if_pos h]

/-- The else-if of R132 on the registers. -/
theorem regValue_of_trackCompare {s t : State} {v : Nat} {c : Word} (hv : v ≤ 1023)
    (h : t.tracker = { trackCompare (BitVec.ofNat 10 v) s.tracker with count := c }) :
    if (regValue s .readMax).toNat < v then
      regValue t .readMax = BitVec.ofNat 32 v ∧ regValue t .readMin = regValue s .readMin
    else if v < (regValue s .readMin).toNat then
      regValue t .readMax = regValue s .readMax ∧ regValue t .readMin = BitVec.ofNat 32 v
    else regValue t .readMax = regValue s .readMax ∧ regValue t .readMin = regValue s .readMin := by
  have hnat : (BitVec.ofNat 10 v).toNat = v := Nat.mod_eq_of_lt (Nat.lt_succ_of_le hv)
  rw [trackCompare, hnat] at h
  rw [regValue_readMax_toNat, regValue_readMin_toNat]
  split
  case isTrue hmax => simp only [regValue, h, if_pos hmax, setWidth_sample hv, and_self]
  case isFalse hmax =>
    split
    case isTrue hmin => simp only [regValue, h, if_neg hmax, if_pos hmin, setWidth_sample hv, and_self]
    case isFalse hmin => simp only [regValue, h, if_neg hmax, if_neg hmin, and_self]

/-- Settles O22: in SENTINEL mode a push is always the else-if. -/
theorem trackPushInSentinelMode : Obligations.TrackPushInSentinelMode := by
  intro s v hv hmode
  obtain ⟨t, hexec, htracker, hcount, hcompleted, hframe⟩ := exec_trackPush_spec hv s
  rw [hmode, trackPush_eq_trackCompare (by simp)] at htracker
  exact ⟨t, hexec, regValue_of_trackCompare hv htracker, hcount, hcompleted, hframe⟩

/-- Settles O23: the first sample is told by COUNT = 0, and after it a push is the else-if. -/
theorem trackPushInFirstSampleMode : Obligations.TrackPushInFirstSampleMode := by
  intro s v hv hmode
  obtain ⟨t, hexec, htracker, hcount, hcompleted, hframe⟩ := exec_trackPush_spec hv s
  refine ⟨t, hexec, ?_, hcount, hcompleted, hframe⟩
  rw [hmode] at htracker
  split
  case isTrue hzero =>
    rw [trackPush_of_first hzero] at htracker
    simp only [regValue, htracker]
    exact ⟨setWidth_sample hv, setWidth_sample hv⟩
  case isFalse hpos =>
    rw [trackPush_eq_trackCompare fun _ => hpos] at htracker
    exact regValue_of_trackCompare hv htracker

/-! ## PEAK -/

/-- PEAK is one `Peak` and a completion (R137). -/
theorem exec_peak (s : State) : exec .peak s = .next (complete .none (storePeak s)) := rfl

/-- `Peak` and its completion write P2P and STATUS alone (R136, R171). -/
theorem complete_storePeak_onlyRegsChange (e : Err) (s : State) :
    OnlyRegsChange [.p2p, .status] s (complete e (storePeak s)) where
  regs r hr := by
    cases r with
    | p2p | status => exact absurd (by decide) hr
    | _ => rfl
  t0 := rfl
  pending := rfl
  bus := rfl
  env := rfl

/-- An empty window, by what `Peak` makes of it (R136). -/
theorem peak_of_count_eq_zero {t : Tracker} (h : t.count = 0) :
    peakP2p t = 0 ∧ peakEmpty t = true ∧ peakNeg t = false :=
  ⟨if_pos h, beq_iff_eq.mpr h, if_pos h⟩

theorem peakEmpty_of_count_ne {t : Tracker} (h : t.count ≠ 0) : peakEmpty t = false :=
  beq_eq_false_iff_ne.mpr h

/-- NEG is the sign of P2P (R136). -/
theorem peakNeg_iff_of_count_ne {t : Tracker} (h : t.count ≠ 0) : peakNeg t = true ↔ i32 (peakP2p t) < 0 := by
  rw [peakNeg, if_neg h, decide_eq_true_iff, peakP2p_of_count_ne h]

/-- Settles O25: an empty window, and the span of one that is not empty. -/
theorem peakReportsTheSpan : Obligations.PeakReportsTheSpan := by
  refine ⟨rfl, fun s => ⟨_, exec_peak s, ?_, ⟨rfl, rfl, rfl, rfl, rfl⟩, complete_storePeak_onlyRegsChange .none s⟩⟩
  split
  case isTrue hzero => exact peak_of_count_eq_zero hzero
  case isFalse hpos =>
    rw [regValue_readMax_toNat, regValue_readMin_toNat]
    exact ⟨peakP2p_of_count_ne hpos, peakEmpty_of_count_ne hpos, peakNeg_iff_of_count_ne hpos⟩

end Sys2Proof.Machine

/-!
What the tracker reports of a sequence of samples pushed onto a cleared tracker: the laws of SENTINEL mode (R138) and of
FIRST_SAMPLE mode (R139).
-/

namespace Sys2Proof.Machine

/-! ## The values of a sequence, their maximum and their minimum -/

theorem valueAt_le (vs : List (BitVec 10)) (k : Nat) : valueAt vs k ≤ 1023 :=
  Nat.le_of_lt_succ (vs.getD k 0).isLt

theorem valueAt_of_length_le {vs : List (BitVec 10)} {k : Nat} (h : vs.length ≤ k) : valueAt vs k = 0 := by
  rw [valueAt, List.getD_eq_default _ _ h]
  rfl

theorem take_succ_eq_append_getD {vs : List (BitVec 10)} {k : Nat} (h : k < vs.length) :
    vs.take (k + 1) = vs.take k ++ [vs.getD k 0] := by
  rw [List.take_succ_eq_append_getElem h, List.getD_eq_getElem _ _ h]

@[simp] theorem maxOfFirst_zero (vs : List (BitVec 10)) : maxOfFirst vs 0 = 0 := rfl

/-- Past the end of the sequence the maximum stands, and so does the value 0 that `valueAt` gives there. -/
theorem maxOfFirst_succ (vs : List (BitVec 10)) (k : Nat) :
    maxOfFirst vs (k + 1) = max (maxOfFirst vs k) (valueAt vs k) := by
  rcases Nat.lt_or_ge k vs.length with h | h
  · rw [maxOfFirst, take_succ_eq_append_getD h, List.map_append, List.foldl_append]
    rfl
  · rw [valueAt_of_length_le h, Nat.max_zero, maxOfFirst, maxOfFirst, List.take_of_length_le h,
      List.take_of_length_le (Nat.le_succ_of_le h)]

theorem maxOfFirst_le_iff (vs : List (BitVec 10)) (k m : Nat) :
    maxOfFirst vs k ≤ m ↔ ∀ j < k, valueAt vs j ≤ m := by
  induction k with
  | zero => simp
  | succ k ih => rw [maxOfFirst_succ, max_le_iff, ih, Nat.forall_lt_succ_right]

theorem valueAt_le_maxOfFirst (vs : List (BitVec 10)) {j k : Nat} (h : j < k) : valueAt vs j ≤ maxOfFirst vs k :=
  (maxOfFirst_le_iff vs k _).mp le_rfl j h

theorem maxOfFirst_le (vs : List (BitVec 10)) (k : Nat) : maxOfFirst vs k ≤ 1023 :=
  (maxOfFirst_le_iff vs k 1023).mpr fun j _ => valueAt_le vs j

theorem le_foldl_min_iff (l : List Nat) (a m : Nat) : m ≤ l.foldl min a ↔ m ≤ a ∧ ∀ x ∈ l, m ≤ x := by
  induction l generalizing a with
  | nil => simp
  | cons x l ih => rw [List.foldl_cons, ih, le_min_iff, List.forall_mem_cons, and_assoc]

theorem le_minOfAll_iff (vs : List (BitVec 10)) (m : Nat) :
    m ≤ minOfAll vs ↔ m ≤ 1024 ∧ ∀ k < vs.length, m ≤ valueAt vs k := by
  rw [minOfAll, le_foldl_min_iff, List.forall_mem_map, List.forall_mem_iff_getElem]
  refine and_congr_right fun _ => forall₂_congr fun k hk => ?_
  rw [valueAt, List.getD_eq_getElem _ _ hk]

theorem minOfAll_le_valueAt {vs : List (BitVec 10)} {k : Nat} (hk : k < vs.length) : minOfAll vs ≤ valueAt vs k :=
  ((le_minOfAll_iff vs _).mp le_rfl).2 k hk

/-- Equal values have no spread. -/
theorem maxOfFirst_le_minOfAll_of_const {vs : List (BitVec 10)} (h : ∀ k < vs.length, valueAt vs k = valueAt vs 0) :
    maxOfFirst vs vs.length ≤ minOfAll vs :=
  calc maxOfFirst vs vs.length ≤ valueAt vs 0 := (maxOfFirst_le_iff vs _ _).mpr fun j hj => (h j hj).le
    _ ≤ minOfAll vs :=
      (le_minOfAll_iff vs _).mpr ⟨(valueAt_le vs 0).trans (by decide), fun k hk => (h k hk).ge⟩

/-! ## A push on the bounds -/

/-- A comparison takes the maximum, in every case of the else-if (R132). -/
theorem trackCompare_readMax (v : BitVec 10) (t : Tracker) :
    (trackCompare v t).readMax.toNat = max t.readMax.toNat v.toNat := by
  unfold trackCompare
  split
  case isTrue h => rw [setWidth11_toNat, max_eq_right h.le]
  case isFalse h => split <;> exact (max_eq_left (Nat.not_lt.mp h)).symm

/-- A sample that raises the maximum is not tested against the minimum (R132). -/
theorem trackCompare_readMin_of_lt {v : BitVec 10} {t : Tracker} (h : t.readMax.toNat < v.toNat) :
    (trackCompare v t).readMin = t.readMin := by
  rw [trackCompare, if_pos h]

/-- Any other sample is. -/
theorem trackCompare_readMin_of_le {v : BitVec 10} {t : Tracker} (h : v.toNat ≤ t.readMax.toNat) :
    (trackCompare v t).readMin.toNat = min t.readMin.toNat v.toNat := by
  rw [trackCompare, if_neg (Nat.not_lt.mpr h)]
  split
  case isTrue hmin => rw [setWidth11_toNat, min_eq_right hmin.le]
  case isFalse hmin => rw [min_eq_left (Nat.not_lt.mp hmin)]

/-- Where the bounds are in order, the else-if loses nothing: a sample above the maximum is not below the minimum. -/
theorem trackCompare_readMin_of_ordered {t : Tracker} (h : t.readMin.toNat ≤ t.readMax.toNat) (v : BitVec 10) :
    (trackCompare v t).readMin.toNat = min t.readMin.toNat v.toNat := by
  rcases Nat.lt_or_ge t.readMax.toNat v.toNat with hlt | hge
  · rw [trackCompare_readMin_of_lt hlt, min_eq_left (h.trans hlt.le)]
  · exact trackCompare_readMin_of_le hge

/-! ## Sequences of pushes -/

theorem pushes_append_singleton (m : TrkMode) (vs : List (BitVec 10)) (v : BitVec 10) (t : Tracker) :
    pushes m (vs ++ [v]) t = trackPush m v (pushes m vs t) :=
  List.foldl_append

theorem pushes_take_succ (m : TrkMode) {vs : List (BitVec 10)} {k : Nat} (h : k < vs.length) (t : Tracker) :
    pushes m (vs.take (k + 1)) t = trackPush m (vs.getD k 0) (pushes m (vs.take k) t) := by
  rw [take_succ_eq_append_getD h, pushes_append_singleton]

/-- COUNT saturates and does not wrap (R11), so a window with a sample is never taken for an empty one. -/
theorem pushes_count_ne_zero (m : TrkMode) {vs : List (BitVec 10)} (h : vs ≠ []) (t : Tracker) :
    (pushes m vs t).count ≠ 0 := by
  rw [← List.dropLast_append_getLast h, pushes_append_singleton]
  exact satInc32_ne_zero _

/-- P2P of a sequence that is not empty is the span. -/
theorem peakP2p_pushes (m : TrkMode) {vs : List (BitVec 10)} (h : vs ≠ []) (t : Tracker) :
    i32 (peakP2p (pushes m vs t)) = span (pushes m vs t) :=
  peakP2p_of_count_ne (pushes_count_ne_zero m h t)

/-! ## FIRST_SAMPLE mode (R139) -/

/-- Past the first sample, with the bounds in order, the pushes fold the maximum and the minimum. -/
theorem pushes_firstSample_bounds (vs : List (BitVec 10)) {t : Tracker} (hcount : t.count ≠ 0)
    (hord : t.readMin.toNat ≤ t.readMax.toNat) :
    (pushes .firstSample vs t).readMin.toNat = (vs.map BitVec.toNat).foldl min t.readMin.toNat ∧
      (pushes .firstSample vs t).readMax.toNat = (vs.map BitVec.toNat).foldl max t.readMax.toNat := by
  induction vs generalizing t with
  | nil => exact ⟨rfl, rfl⟩
  | cons v vs ih =>
    have hpush := trackPush_eq_trackCompare (m := .firstSample) (fun _ => hcount) v
    have hmin : (trackPush .firstSample v t).readMin.toNat = min t.readMin.toNat v.toNat := by
      rw [hpush]
      exact trackCompare_readMin_of_ordered hord v
    have hmax : (trackPush .firstSample v t).readMax.toNat = max t.readMax.toNat v.toNat := by
      rw [hpush]
      exact trackCompare_readMax v t
    have hord' : (trackPush .firstSample v t).readMin.toNat ≤ (trackPush .firstSample v t).readMax.toNat := by omega
    have hcount' : (trackPush .firstSample v t).count ≠ 0 := satInc32_ne_zero t.count
    have h := ih hcount' hord'
    rwa [hmin, hmax] at h

/-- The bounds after a sequence that is not empty: the first sample sets both, and the others fold. -/
theorem pushes_firstSample {vs : List (BitVec 10)} (hne : vs ≠ []) :
    (pushes .firstSample vs trackClear).readMin.toNat = minOfAll vs ∧
      (pushes .firstSample vs trackClear).readMax.toNat = maxOfFirst vs vs.length := by
  obtain ⟨v, vs, rfl⟩ := List.exists_cons_of_ne_nil hne
  have hmin : min 1024 v.toNat = v.toNat := min_eq_right (by omega)
  have h := pushes_firstSample_bounds vs (t := trackPush .firstSample v trackClear)
    (satInc32_ne_zero trackClear.count) (by rw [trackPush_of_first rfl])
  rw [trackPush_of_first rfl, setWidth11_toNat] at h
  rw [pushes_cons, trackPush_of_first rfl, minOfAll, maxOfFirst, List.take_length, List.map_cons, List.foldl_cons,
    List.foldl_cons, hmin, Nat.zero_max]
  exact h

/-- Settles O27: the bounds are the minimum and the maximum, which are in order. -/
theorem firstSampleModeLaws : Obligations.FirstSampleModeLaws := by
  intro vs hne t p
  obtain ⟨hmin, hmax⟩ := pushes_firstSample hne
  have hp : p = (maxOfFirst vs vs.length : Int) - minOfAll vs := by
    rw [← hmin, ← hmax]
    exact peakP2p_pushes .firstSample hne trackClear
  have hpos : 0 < vs.length := List.length_pos_iff.mpr hne
  have hord : minOfAll vs ≤ maxOfFirst vs vs.length :=
    (minOfAll_le_valueAt hpos).trans (valueAt_le_maxOfFirst vs hpos)
  have hle := maxOfFirst_le vs vs.length
  have hnonneg : 0 ≤ p := by omega
  have hneg : ¬ peakNeg t = true :=
    (peakNeg_iff_of_count_ne (pushes_count_ne_zero .firstSample hne trackClear)).not.mpr hnonneg.not_gt
  refine ⟨hmin, hmax, (hmin.trans_le hord).trans_eq hmax.symm, hp, hnonneg, by omega, Bool.eq_false_of_not_eq_true hneg,
    fun hconst => ?_⟩
  have hconst' := maxOfFirst_le_minOfAll_of_const hconst
  omega

/-! ## SENTINEL mode (R138) -/

/-- A record raises the maximum to its own value. -/
theorem maxOfFirst_succ_of_isRecord {vs : List (BitVec 10)} {k : Nat} (h : isRecord vs k) :
    maxOfFirst vs (k + 1) = valueAt vs k := by
  rw [maxOfFirst_succ, max_eq_right (Nat.le_of_lt h)]

/-- What READ_MIN can hold after the first `k` values: the sentinel, or a value that is no record (R138). -/
def minCandidates (vs : List (BitVec 10)) (k : Nat) : Set Nat :=
  insert 1024 (valueAt vs '' {j | j < k ∧ ¬ isRecord vs j})

theorem minCandidates_succ_of_isRecord {vs : List (BitVec 10)} {k : Nat} (h : isRecord vs k) :
    minCandidates vs (k + 1) = minCandidates vs k := by
  have hset : {j | j < k + 1 ∧ ¬ isRecord vs j} = {j | j < k ∧ ¬ isRecord vs j} := by
    ext j
    simp only [Set.mem_ofPred_eq, Nat.lt_succ_iff_lt_or_eq, or_and_right, or_iff_left_iff_imp]
    rintro ⟨rfl, hrec⟩
    exact absurd h hrec
  rw [minCandidates, hset, minCandidates]

theorem minCandidates_succ_of_not_isRecord {vs : List (BitVec 10)} {k : Nat} (h : ¬ isRecord vs k) :
    minCandidates vs (k + 1) = insert (valueAt vs k) (minCandidates vs k) := by
  have hset : {j | j < k + 1 ∧ ¬ isRecord vs j} = insert k {j | j < k ∧ ¬ isRecord vs j} := by
    ext j
    simp only [Set.mem_insert_iff, Set.mem_ofPred_eq, Nat.lt_succ_iff_lt_or_eq, or_and_right]
    rw [or_comm, and_iff_left_of_imp]
    rintro rfl
    exact h
  rw [minCandidates, hset, Set.image_insert_eq, Set.insert_comm, minCandidates]

/-- The bounds after the first `k` values of the sequence: a record is the branch of the else-if that raises READ_MAX,
and every other value is compared with READ_MIN. -/
theorem pushes_sentinel_take {vs : List (BitVec 10)} {k : Nat} (hk : k ≤ vs.length) :
    (pushes .sentinel (vs.take k) trackClear).readMax.toNat = maxOfFirst vs k ∧
      IsLeast (minCandidates vs k) (pushes .sentinel (vs.take k) trackClear).readMin.toNat := by
  induction k with
  | zero => exact ⟨rfl, by simp [minCandidates, trackClear, minSentinel]⟩
  | succ k ih =>
    obtain ⟨hmax, hmin⟩ := ih (Nat.le_of_succ_le hk)
    rw [pushes_take_succ .sentinel hk, trackPush_eq_trackCompare (by simp)]
    refine ⟨?_, ?_⟩
    · rw [maxOfFirst_succ, ← hmax]
      exact trackCompare_readMax _ _
    by_cases hrec : isRecord vs k
    · rw [minCandidates_succ_of_isRecord hrec]
      rwa [trackCompare_readMin_of_lt (hmax.trans_lt hrec)]
    · rw [minCandidates_succ_of_not_isRecord hrec,
        trackCompare_readMin_of_le ((Nat.not_lt.mp hrec).trans_eq hmax.symm), min_comm]
      exact hmin.insert (valueAt vs k)

/-- R138 (a) and (b): the bounds after the whole sequence. -/
theorem pushes_sentinel (vs : List (BitVec 10)) :
    (pushes .sentinel vs trackClear).readMax.toNat = maxOfFirst vs vs.length ∧
      IsLeast (minCandidates vs vs.length) (pushes .sentinel vs trackClear).readMin.toNat := by
  have h := pushes_sentinel_take (le_refl vs.length)
  rwa [List.take_length] at h

/-- READ_MIN keeps the sentinel exactly while every value is a record (R138 (c)): any other value is below it. -/
theorem readMin_eq_sentinel_iff {vs : List (BitVec 10)} {n m : Nat} (h : IsLeast (minCandidates vs n) m) :
    m = 1024 ↔ ∀ k < n, isRecord vs k := by
  obtain ⟨hmem, hle⟩ := h
  constructor
  · intro hm k hk
    by_contra hrec
    have h1 : m ≤ valueAt vs k := hle (.inr ⟨k, ⟨hk, hrec⟩, rfl⟩)
    have h2 := valueAt_le vs k
    omega
  · rintro hall
    rcases hmem with hm | ⟨k, ⟨hk, hrec⟩, -⟩
    · exact hm
    · exact absurd (hall k hk) hrec

/-- Every value is a record exactly when the sequence rises strictly from above 0 (R138 (c)). -/
theorem forall_isRecord_iff {vs : List (BitVec 10)} (hne : vs ≠ []) :
    (∀ k < vs.length, isRecord vs k) ↔
      0 < valueAt vs 0 ∧ ∀ k, k + 1 < vs.length → valueAt vs k < valueAt vs (k + 1) := by
  constructor
  · intro h
    refine ⟨h 0 (List.length_pos_iff.mpr hne), fun k hk => ?_⟩
    exact (valueAt_le_maxOfFirst vs k.lt_succ_self).trans_lt (h (k + 1) hk)
  · rintro ⟨hpos, hrise⟩ k
    induction k with
    | zero => exact fun _ => hpos
    | succ k ih =>
      intro hk
      rw [isRecord, maxOfFirst_succ_of_isRecord (ih (Nat.lt_of_succ_lt hk))]
      exact hrise k hk

/-- R138 (d): the span of a sequence of records, which is negative. -/
theorem span_sentinel_of_forall_isRecord {vs : List (BitVec 10)} (hne : vs ≠ [])
    (h : ∀ k < vs.length, isRecord vs k) :
    span (pushes .sentinel vs trackClear) = (valueAt vs (vs.length - 1) : Int) - 1024 ∧
      0 < valueAt vs (vs.length - 1) := by
  obtain ⟨hmax, hmin⟩ := pushes_sentinel vs
  have hlen : vs.length - 1 + 1 = vs.length := Nat.succ_pred (List.length_pos_iff.mpr hne).ne'
  have hlast : isRecord vs (vs.length - 1) := h _ (by omega)
  rw [← hlen, maxOfFirst_succ_of_isRecord hlast] at hmax
  refine ⟨?_, Nat.zero_lt_of_lt hlast⟩
  rw [span, hmax, (readMin_eq_sentinel_iff hmin).mpr h]
  rfl

/-- R138 (e): where some value is no record, READ_MIN is one of the values. -/
theorem span_sentinel_of_not_isRecord {vs : List (BitVec 10)} (h : ∃ k < vs.length, ¬ isRecord vs k) :
    0 ≤ span (pushes .sentinel vs trackClear) ∧
      span (pushes .sentinel vs trackClear) ≤ (maxOfFirst vs vs.length : Int) - minOfAll vs := by
  obtain ⟨hmax, hmin⟩ := pushes_sentinel vs
  have hne : (pushes .sentinel vs trackClear).readMin.toNat ≠ 1024 := by
    rw [Ne, readMin_eq_sentinel_iff hmin]
    push Not
    exact h
  obtain ⟨k, ⟨hk, -⟩, hval⟩ := hmin.1.resolve_left hne
  have hle := valueAt_le_maxOfFirst vs hk
  have hge := minOfAll_le_valueAt hk
  rw [span]
  omega

/-- R138 (f): a single value is a record unless it is 0. -/
theorem span_sentinel_single {vs : List (BitVec 10)} (h : vs.length = 1) :
    span (pushes .sentinel vs trackClear) = if valueAt vs 0 = 0 then 0 else (valueAt vs 0 : Int) - 1024 := by
  have hne : vs ≠ [] := by
    rintro rfl
    cases h
  split
  case isTrue hzero =>
    have hmax : maxOfFirst vs vs.length ≤ 0 := by
      rw [h, maxOfFirst_succ, hzero]
      exact le_rfl
    have hrec : ¬ isRecord vs 0 := by
      rw [isRecord, hzero]
      exact Nat.not_lt_zero _
    have hspan := span_sentinel_of_not_isRecord ⟨0, by omega, hrec⟩
    omega
  case isFalse hpos =>
    have hall : ∀ k < vs.length, isRecord vs k := by
      intro k hk
      obtain rfl : k = 0 := by omega
      exact Nat.pos_of_ne_zero hpos
    have hspan := (span_sentinel_of_forall_isRecord hne hall).1
    rwa [h] at hspan

/-- R138 (g): of two or more equal values, the second is no record. -/
theorem span_sentinel_const {vs : List (BitVec 10)} (hlen : 2 ≤ vs.length)
    (hconst : ∀ k < vs.length, valueAt vs k = valueAt vs 0) : span (pushes .sentinel vs trackClear) = 0 := by
  have hrec : ¬ isRecord vs 1 := by
    rw [isRecord, hconst 1 hlen]
    exact Nat.not_lt.mpr (valueAt_le_maxOfFirst vs Nat.zero_lt_one)
  have hspan := span_sentinel_of_not_isRecord ⟨1, hlen, hrec⟩
  have hle := maxOfFirst_le_minOfAll_of_const hconst
  omega

/-- Settles O26: clause by clause, with P2P read as the span. -/
theorem sentinelModeLaws : Obligations.SentinelModeLaws := by
  intro vs hne t n p
  have hp : p = span t := peakP2p_pushes .sentinel hne trackClear
  obtain ⟨hmax, hmin⟩ := pushes_sentinel vs
  rw [hp]
  refine ⟨hmax, ⟨?atMostSentinel, ?atMostNonRecords, ?attained⟩, ⟨readMin_eq_sentinel_iff hmin, forall_isRecord_iff hne⟩,
    ?records, span_sentinel_of_not_isRecord, by decide, span_sentinel_single, span_sentinel_const⟩
  case atMostSentinel => exact hmin.2 (.inl rfl)
  case atMostNonRecords => exact fun k hk hrec => hmin.2 (.inr ⟨k, ⟨hk, hrec⟩, rfl⟩)
  case attained => exact hmin.1.imp_right fun ⟨k, ⟨hk, hrec⟩, hval⟩ => ⟨k, hk, hrec, hval.symm⟩
  case records =>
    intro hall
    obtain ⟨hspan, hpos⟩ : span t = (valueAt vs (n - 1) : Int) - 1024 ∧ 0 < valueAt vs (n - 1) :=
      span_sentinel_of_forall_isRecord hne hall
    have hle := valueAt_le vs (n - 1)
    have hneg : span t < 0 := by omega
    exact ⟨hspan, by omega, by omega,
      (peakNeg_iff_of_count_ne (pushes_count_ne_zero .sentinel hne trackClear)).mpr (hp.trans_lt hneg)⟩

end Sys2Proof.Machine

/-!
The rescaler: `Rescale` as a rational ceiling (R150) and its laws (R153), the sampler's use of it (R155), and the command
RESCALE (R152).
-/

namespace Sys2Proof.Machine

/-! ## Ceiling division of a multiple -/

/-- A multiple of the divisor divides with nothing to round up (R10). -/
theorem ceilDiv_mul_cancel_right (q : Int) {b : Int} (hb : b ≠ 0) : ceilDiv (q * b) b = q := by
  have hbq : (b : ℚ) ≠ 0 := Int.cast_ne_zero.mpr hb
  rw [ceilDiv_eq_ceil _ hb, Int.cast_mul, mul_div_cancel_right₀ _ hbq, Int.ceil_intCast]

/-! ## Rescale as a rational ceiling -/

/-- The exact value that `Rescale` rounds up, over one fraction (R150, R153). -/
theorem rescale_eq_ceil (value dl dh : Int) {sl sh : Int} (h : sh ≠ sl) :
    rescale value sl sh dl dh =
      ⌈(dl : ℚ) + ((value : ℚ) - sl) * ((dh : ℚ) - dl) / ((sh : ℚ) - sl)⌉ := by
  rw [rescale, ceilDiv_eq_ceil _ (sub_ne_zero.mpr h), Int.ceil_intCast_add]
  push_cast
  rfl

/-- Settles O30: the source divides before it multiplies, which over the rationals is the same fraction. -/
theorem rescaleIsTheExactCeiling : Obligations.RescaleIsTheExactCeiling := by
  intro value sl sh dl dh h
  refine ⟨rfl, ?_⟩
  rw [rescale_eq_ceil value dl dh h, add_comm, div_mul_eq_mul_div]

/-! ## The laws of Rescale (R153) -/

/-- R153 (a): an exact quotient is not rounded. -/
theorem rescale_of_exact {value q sl sh dl dh : Int} (h : sh ≠ sl)
    (hq : (value - sl) * (dh - dl) = q * (sh - sl)) : rescale value sl sh dl dh = dl + q := by
  rw [rescale, hq, ceilDiv_mul_cancel_right q (sub_ne_zero.mpr h)]

/-- R153 (b): the lower end of the source goes to the lower end of the destination. -/
theorem rescale_src_lo {sl sh : Int} (h : sh ≠ sl) (dl dh : Int) : rescale sl sl sh dl dh = dl := by
  rw [rescale_of_exact (q := 0) h (by ring), add_zero]

/-- R153 (b): the upper end of the source goes to the upper end of the destination. -/
theorem rescale_src_hi {sl sh : Int} (h : sh ≠ sl) (dl dh : Int) : rescale sh sl sh dl dh = dh := by
  rw [rescale_of_exact (q := dh - dl) h (by ring), add_sub_cancel]

/-- R153 (c): rounding up keeps the order of the exact values, and a slope that is not negative that of the inputs. -/
theorem rescale_mono {sl sh dl dh : Int} (h : sh ≠ sl) (hslope : 0 ≤ ((dh : ℚ) - dl) / ((sh : ℚ) - sl)) {v w : Int}
    (hvw : v ≤ w) : rescale v sl sh dl dh ≤ rescale w sl sh dl dh := by
  have hsub : (v : ℚ) - sl ≤ w - sl := sub_le_sub_right (Int.cast_le.mpr hvw) _
  rw [rescale_eq_ceil v dl dh h, rescale_eq_ceil w dl dh h, mul_div_assoc, mul_div_assoc]
  exact Int.ceil_mono (add_le_add_right (mul_le_mul_of_nonneg_right hsub hslope) _)

/-- Settles O31: the laws one by one; (d) is what a ceiling is. -/
theorem rescaleLaws : Obligations.RescaleLaws := by
  intro sl sh dl dh h
  have hsrc : (1024 : Int) ≠ 0 := by decide
  refine ⟨fun value q => rescale_of_exact h,
    ⟨rescale_src_lo h dl dh, rescale_src_hi h dl dh, rescale_src_lo hsrc 0 100, rescale_src_hi hsrc 0 100⟩,
    fun hslope v w => rescale_mono h hslope, fun value => ?_⟩
  rw [rescale_eq_ceil value dl dh h]
  exact ⟨Int.le_ceil _, Int.ceil_lt_add_one _⟩

/-! ## The sampler's rescale (R155) -/

/-- The sampler's source bounds differ, so its rescale is defined. -/
theorem sampleSrcHi_ne_sampleSrcLo : sampleSrcHi ≠ sampleSrcLo := by decide

/-- A scale that is not negative is a slope that is not negative: law (c) on the sampler's rescale. -/
theorem rescaleSample_mono {s : Int} (hs : 0 ≤ s) {p q : Int} (hpq : p ≤ q) : rescaleSample p s ≤ rescaleSample q s := by
  have hslope : 0 ≤ ((s : ℚ) - sampleDstLo) / ((sampleSrcHi : ℚ) - sampleSrcLo) := by
    rw [sampleDstLo, sampleSrcHi, sampleSrcLo, Int.cast_zero, sub_zero, sub_zero]
    positivity
  exact rescale_mono sampleSrcHi_ne_sampleSrcLo hslope hpq

theorem rescaleSample_zero (s : Int) : rescaleSample 0 s = 0 :=
  rescale_src_lo sampleSrcHi_ne_sampleSrcLo sampleDstLo s

theorem rescaleSample_srcHi (s : Int) : rescaleSample 1024 s = s :=
  rescale_src_hi sampleSrcHi_ne_sampleSrcLo sampleDstLo s

theorem rescaleSample_neg_srcHi (s : Int) : rescaleSample (-1024) s = -s := by
  rw [rescaleSample_eq, neg_mul_comm, mul_comm, ceilDiv_mul_cancel_right _ (by decide)]

/-- R155's [-s+1, 0]: at -1023 the exact value is above -s, so the ceiling is too. -/
theorem neg_add_one_le_ceilDiv {s : Int} (hs : 1 ≤ s) : -s + 1 ≤ ceilDiv (-1023 * s) 1024 := by
  have hle := (ceilDiv_bounds (-1023 * s) 1024 (by decide)).1
  omega

/-- The range check of R151, in numbers. -/
theorem fitsI32_iff (z : Int) : fitsI32 z = true ↔ -2 ^ 31 ≤ z ∧ z ≤ 2 ^ 31 - 1 := by
  rw [fitsI32, Bool.and_eq_true, decide_eq_true_iff, decide_eq_true_iff]
  rfl

/-- The overflow check of R152 as its pseudocode writes it. -/
theorem not_fitsI32_iff (z : Int) : ¬ fitsI32 z = true ↔ z < -2 ^ 31 ∨ 2 ^ 31 - 1 < z := by
  rw [fitsI32_iff, not_and_or, not_le, not_le]

/-- An integer that passes the range check is what its encoding reads as. -/
theorem i32_ofI32_of_fitsI32 {z : Int} (h : fitsI32 z = true) : i32 (ofI32 z) = z := by
  obtain ⟨hlo, hhi⟩ := (fitsI32_iff z).mp h
  exact i32_ofI32 z hlo hhi

/-- R155's reason for the fit: the result stands between -s and s, its values at the ends of the source and their
mirror image. -/
theorem rescaleSample_fitsI32 {p s : Int} (hlo : -1024 ≤ p) (hhi : p ≤ 1024) (hs : 0 ≤ s) (hmax : s ≤ 2 ^ 31 - 1) :
    fitsI32 (rescaleSample p s) = true := by
  have hge : -s ≤ rescaleSample p s := rescaleSample_neg_srcHi s ▸ rescaleSample_mono hs hlo
  have hle : rescaleSample p s ≤ s := (rescaleSample_mono hs hhi).trans_eq (rescaleSample_srcHi s)
  rw [fitsI32_iff]
  omega

/-- Settles O32: each bound is the sampler's rescale at an end of P2P's range, by monotonicity. -/
theorem samplerRescaleNeverOverflows : Obligations.SamplerRescaleNeverOverflows := by
  refine ⟨rescaleSample_eq, fun p s hlo hhi hs hmax => ?_, by decide⟩
  have hfits := rescaleSample_fitsI32 hlo (by omega) hs hmax
  refine ⟨hfits, i32_ofI32_of_fitsI32 hfits, fun hp => ⟨?atLeastZero, ?atMostScale⟩,
    fun hp hneg => ⟨?atLeastLeast, ?atMostZero, neg_add_one_le_ceilDiv⟩⟩
  case atLeastZero => exact (rescaleSample_zero s).symm.trans_le (rescaleSample_mono hs hp)
  case atMostScale => exact (rescaleSample_mono hs (by omega)).trans_eq (rescaleSample_srcHi s)
  case atLeastLeast => exact (rescaleSample_eq (-1023) s).symm.trans_le (rescaleSample_mono hs hp)
  case atMostZero => exact (rescaleSample_mono hs (by omega)).trans_eq (rescaleSample_zero s)

/-! ## RESCALE (R152) -/

/-- The state with another value in RESULT. -/
def setResult (v : Word) (s : State) : State := { s with result := v }

@[simp] theorem setResult_status (v : Word) (s : State) : (setResult v s).status = s.status := rfl

theorem setResult_onlyRegsChange (v : Word) (s : State) : OnlyRegsChange [.result] s (setResult v s) where
  regs r hr := by
    cases r with
    | result => exact absurd List.mem_cons_self hr
    | _ => rfl
  t0 := rfl
  pending := rfl
  bus := rfl
  env := rfl

theorem exec_rescale_of_srcHi_eq {s : State} (h : s.rs.srcHi = s.rs.srcLo) :
    exec .rescale s = .next (complete .divZero s) := by
  rw [exec, execRescale, h, if_pos rfl]

/-- Different words read as different numbers, so past the first check the range of the result decides. -/
theorem exec_rescale_of_srcHi_ne {s : State} (h : s.rs.srcHi ≠ s.rs.srcLo) :
    exec .rescale s = .next (if fitsI32 (rescaleOperands s.rs) then
      complete .none (setResult (ofI32 (rescaleOperands s.rs)) s) else complete .overflow s) := by
  have hi32 : i32 s.rs.srcHi ≠ i32 s.rs.srcLo := fun heq => h (BitVec.eq_of_toInt_eq heq)
  rw [exec, execRescale, if_neg hi32, setResult]
  split <;> rfl

/-- Settles O33: the two checks of R152 in their order, and each outcome a completion after at most one write. -/
theorem rescaleCommandOutcomes : Obligations.RescaleCommandOutcomes := by
  refine ⟨rfl, fun s => ?_⟩
  change ∃ t, exec .rescale s = .next t ∧
    (if s.rs.srcHi = s.rs.srcLo then _ else if rescaleOperands s.rs < -2 ^ 31 ∨ 2 ^ 31 - 1 < rescaleOperands s.rs
      then _ else (regValue t .result).toInt = rescaleOperands s.rs ∧ _)
  by_cases hzero : s.rs.srcHi = s.rs.srcLo
  case pos =>
    refine ⟨_, exec_rescale_of_srcHi_eq hzero, ?_⟩
    rw [if_pos hzero]
    exact ⟨complete_completed .divZero s, complete_onlyRegsChange .divZero s⟩
  case neg =>
    refine ⟨_, exec_rescale_of_srcHi_ne hzero, ?_⟩
    rw [if_neg hzero]
    by_cases hfits : fitsI32 (rescaleOperands s.rs) = true
    case pos =>
      rw [if_pos hfits, if_neg ((not_fitsI32_iff _).not_right.mp hfits)]
      exact ⟨i32_ofI32_of_fitsI32 hfits, complete_completed_of_status_eq (setResult_status _ s) .none,
        (setResult_onlyRegsChange _ s).then_complete .none⟩
    case neg =>
      rw [if_neg hfits, if_pos ((not_fitsI32_iff _).mp hfits)]
      exact ⟨complete_completed .overflow s, complete_onlyRegsChange .overflow s⟩

end Sys2Proof.Machine

/-!
NOP (R172), and what a waiting SAMPLE does with the answer to its frame: the push of an OK response (R175) and the abort on
FAIL (R176).
-/

namespace Sys2Proof.Machine

/-! ## NOP -/

/-- NOP is a completion and nothing else (R172). -/
theorem exec_nop (s : State) : exec .nop s = .next (complete .none s) := rfl

/-- OP 0 is NOP's alone, whatever the other fields hold (R72, R74). -/
theorem decodeCmd_eq_nop_iff (w : Word) : decodeCmd w = .nop ↔ opField w = 0 := by
  unfold decodeCmd
  split
  case h_1 hop => exact iff_of_true rfl hop
  all_goals exact iff_of_false nofun (by omega)

/-- OP as the bits 3:0 themselves (R71). -/
theorem opField_eq_zero_iff (w : Word) : opField w = 0 ↔ w.extractLsb' 0 4 = 0 :=
  BitVec.toNat_inj (y := 0#4)

/-- Completion with NONE leaves DONE alone in STATUS, where no other flag was up (R171). -/
theorem regValue_status_complete_none {s : State} (hdropped : s.status.dropped = false)
    (hempty : s.status.empty = false) (hneg : s.status.neg = false) :
    regValue (complete .none s) .status = 0x00000002#32 := by
  change statusWord { s.status with busy := false, done := true, err := 0 } = _
  simp only [hdropped, hempty, hneg]
  rfl

/-- Settles O10: OP alone decides the encoding, and the row is a completion. -/
theorem nopOnlyCompletes : Obligations.NopOnlyCompletes := by
  refine ⟨fun w => ?encoding, fun s => ⟨_, exec_nop s, complete_completed .none s, complete_onlyRegsChange .none s,
    regValue_status_complete_none⟩⟩
  case encoding =>
    rw [← opField_eq_zero_iff, ← decodeCmd_eq_nop_iff, decode, Except.ok.injEq]

/-! ## Frames of steps made of several writes -/

/-- Writes after a step that has moved the bus port add their registers to its frame. -/
theorem OnlyRegsAndBusChange.trans_onlyRegsChange {regs regs' : List Reg} {s u t : State}
    (h : OnlyRegsAndBusChange regs s u) (h' : OnlyRegsChange regs' u t) : OnlyRegsAndBusChange (regs ++ regs') s t where
  regs r hr := by
    rw [List.mem_append, not_or] at hr
    obtain ⟨hfirst, hsecond⟩ := hr
    exact (h'.regs r hsecond).trans (h.regs r hfirst)
  t0 := h'.t0.trans h.t0
  env := h'.env.trans h.env

/-- The phase is no register (R36): a frame of registers does not see where the controller goes on. -/
theorem OnlyRegsChange.then_phase {regs : List Reg} {s u : State} (h : OnlyRegsChange regs s u) (p : Phase) :
    OnlyRegsChange regs s { u with phase := p } where
  regs r hr := by
    have hphase : regValue { u with phase := p } r = regValue u r := by cases r <;> rfl
    exact hphase.trans (h.regs r hr)
  t0 := h.t0
  pending := h.pending
  bus := h.bus
  env := h.env

/-- A push writes the tracker's registers (R132, R133). -/
theorem pushSample_onlyRegsChange (v : BitVec 10) (s : State) :
    OnlyRegsChange [.readMin, .readMax, .count] s (pushSample v s) :=
  setTracker_onlyRegsChange (trackPush s.trkMode v s.tracker) s

/-! ## SAMPLE's responses -/

/-- The sample that is pushed, by the source's formula (R101). -/
theorem decodeSample_eq_ofNat (rx0 rx1 rx2 : Byte) :
    decodeSample rx0 rx1 rx2 = BitVec.ofNat 10 (((rx1.toNat &&& 3) <<< 8) ||| rx2.toNat) := by
  rw [← decodeSample_toNat_or rx0, BitVec.ofNat_toNat, BitVec.setWidth_eq]

/-- SAMPLE's row for an inbound frame (R175). -/
theorem exec_adcResult_of_sampleWait {s : State} (hp : s.phase = .sampleWait) (rx0 rx1 rx2 : Byte) :
    exec (.adcResult rx0 rx1 rx2) s = .next
      { pushSample (decodeSample rx0 rx1 rx2) (receive rx0 rx1 rx2 s) with phase := .sampleCheck } := by
  rw [exec, execAdcResult, hp, samplePush]

/-- Settles O37: the response is received, its sample pushed, and the loop goes back to the window check. -/
theorem samplePushesTheResponse : Obligations.SamplePushesTheResponse := by
  intro s rx0 rx1 rx2 hp
  refine ⟨_, exec_adcResult_of_sampleWait hp rx0 rx1 rx2, ?rx, ?raw, ?tracker, rfl, rfl, rfl, ?frame⟩
  case rx =>
    rw [regValue_rx_toNat]
    exact pack24_toNat rx0 rx1 rx2
  case raw =>
    rw [regValue_raw_toNat]
    exact decodeSample_toNat_or rx0 rx1 rx2
  case tracker =>
    rw [← decodeSample_eq_ofNat rx0]
    rfl
  case frame =>
    exact (receive_onlyRegsAndBusChange rx0 rx1 rx2 s).trans_onlyRegsChange
      ((pushSample_onlyRegsChange (decodeSample rx0 rx1 rx2) (receive rx0 rx1 rx2 s)).then_phase .sampleCheck)

/-- The machine's step on a FAIL, in either waiting phase (R107, R176). -/
theorem step_of_fail {s : State} (hturn : nextAgent s = .block) (hp : waiting s.phase) (hbus : s.bus = .answered .fail) :
    step s = .next (complete .transferFailure (consume (afterTurn s))) :=
  (step_of_block hturn).trans (blockTurn_of_fail (s := afterTurn s) hp hbus)

/-- Settles O38: the abort is the consumption of the FAIL and a completion, which write no register but STATUS. -/
theorem sampleAbortsOnFail : Obligations.SampleAbortsOnFail := fun s hturn hp hbus =>
  ⟨_, step_of_fail hturn (.inr hp) hbus, rfl, rfl,
    complete_completed_of_status_eq (consume_status (afterTurn s)) .transferFailure,
    (consume_onlyRegsAndBusChange (afterTurn s)).then_complete .transferFailure⟩

end Sys2Proof.Machine

/-!
DROPPED (R207): no command row, no answer and no window check reads it or writes it, so the block steps alike with
either value of it, and only the host's and the platform's turns can lower it.
-/

namespace Sys2Proof.Machine

/-! ## DROPPED is neither read nor written by the block -/

/-- The state with another value of DROPPED. -/
def setDropped (d : Bool) (s : State) : State := { s with status := { s.status with dropped := d } }

/-- A meaning that neither reads DROPPED nor writes it: with another value of it, it does the same and leaves that
value. -/
def DroppedFree (f : State → Result) : Prop :=
  ∀ (d : Bool) (s : State), f (setDropped d s) = mapNext (setDropped d) (f s)

@[simp] theorem setDropped_dropped (d : Bool) (s : State) : (setDropped d s).status.dropped = d := rfl
@[simp] theorem setDropped_self (s : State) : setDropped s.status.dropped s = s := rfl
@[simp] theorem setDropped_cmd (d : Bool) (s : State) : (setDropped d s).cmd = s.cmd := rfl
@[simp] theorem setDropped_scaleMax (d : Bool) (s : State) : (setDropped d s).scaleMax = s.scaleMax := rfl
@[simp] theorem setDropped_rs (d : Bool) (s : State) : (setDropped d s).rs = s.rs := rfl
@[simp] theorem setDropped_phase (d : Bool) (s : State) : (setDropped d s).phase = s.phase := rfl
@[simp] theorem setDropped_pending (d : Bool) (s : State) : (setDropped d s).pending = s.pending := rfl
@[simp] theorem setDropped_bus (d : Bool) (s : State) : (setDropped d s).bus = s.bus := rfl
@[simp] theorem windowOpen_setDropped (d : Bool) (s : State) : windowOpen (setDropped d s) = windowOpen s := rfl
@[simp] theorem fetchAnswer_setDropped (d : Bool) (s : State) : fetchAnswer (setDropped d s) = fetchAnswer s := rfl

theorem issueFrame_droppedFree (ch : Fin 8) (wait : Phase) : DroppedFree (issueFrame ch wait) := by
  intro d s
  rw [issueFrame, issueFrame, setDropped_pending]
  split <;> rfl

theorem answerFrame_droppedFree (ch : Fin 8) : DroppedFree (answerFrame ch) := by
  intro d s
  rw [answerFrame, answerFrame, setDropped_pending, setDropped_bus]
  cases s.pending <;> cases s.bus <;> rfl

theorem execAdcResult_droppedFree (b0 b1 b2 : Byte) : DroppedFree (execAdcResult b0 b1 b2) := by
  intro d s
  rw [execAdcResult, execAdcResult, setDropped_phase]
  cases s.phase <;> rfl

theorem transferFailed_droppedFree : DroppedFree transferFailed := by
  intro d s
  rw [transferFailed, transferFailed, setDropped_phase]
  cases s.phase <;> rfl

/-- No row of the opcode table reads DROPPED or writes it: a row that branches does so on its channel, its value, the
rescaler's operands or the scale, and completion keeps the flag (R171). -/
theorem exec_droppedFree (i : Instr) : DroppedFree (exec i) := by
  intro d s
  cases i with
  | frame ch =>
    rw [exec, exec, execFrame, execFrame]
    cases toChannel ch <;> rfl
  | read ch =>
    rw [exec, exec, execRead, execRead]
    cases toChannel ch with
    | none => rfl
    | some c => exact issueFrame_droppedFree c .readWait d s
  | trackPush v =>
    rw [exec, exec, execTrackPush, execTrackPush]
    split <;> rfl
  | rescale =>
    rw [exec, exec, execRescale, execRescale, setDropped_rs]
    split_ifs <;> rfl
  | sample ch =>
    rw [exec, exec, execSample, execSample, setDropped_scaleMax]
    cases toChannel ch with
    | none => rfl
    | some c => dsimp only; split_ifs <;> rfl
  | adcSeCh0 | adcSeCh1 | adcSeCh2 | adcSeCh3 | adcSeCh4 | adcSeCh5 | adcSeCh6 | adcSeCh7 =>
    exact answerFrame_droppedFree _ d s
  | adcResult b0 b1 b2 => exact execAdcResult_droppedFree b0 b1 b2 d s
  | nop | decode | trackClear | peak => rfl
  | reserved9 | reservedA | reservedB | reservedC | reservedD | reservedE | reservedF => rfl

theorem waitStep_droppedFree : DroppedFree waitStep := by
  intro d s
  rw [waitStep, waitStep, fetchAnswer_setDropped]
  match fetchAnswer s with
  | none => rfl
  | some (.ok b0 b1 b2) => exact execAdcResult_droppedFree b0 b1 b2 d s
  | some .fail => exact transferFailed_droppedFree d s

theorem windowCheck_droppedFree : DroppedFree windowCheck := by
  intro d s
  rw [windowCheck, windowCheck, windowOpen_setDropped, setDropped_cmd]
  cases windowOpen s with
  | false => rfl
  | true =>
    cases toChannel (chanField s.cmd) with
    | none => rfl
    | some c => exact issueFrame_droppedFree c .sampleWait d s

/-- The block's step, whatever row of R181 it takes. -/
theorem blockTurn_droppedFree : DroppedFree blockTurn := by
  intro d s
  cases hp : s.phase with
  | exec =>
    rw [blockTurn_of_exec hp, blockTurn_of_exec ((setDropped_phase d s).trans hp), setDropped_cmd]
    exact exec_droppedFree _ d s
  | idle =>
    rw [blockTurn, blockTurn, setDropped_phase, hp]
    rfl
  | readWait | sampleWait =>
    rw [blockTurn, blockTurn, setDropped_phase, hp]
    exact waitStep_droppedFree d s
  | sampleCheck =>
    rw [blockTurn, blockTurn, setDropped_phase, hp]
    exact windowCheck_droppedFree d s

/-- A step that commutes with every change of DROPPED makes none: commute it with the change to the value at hand. -/
theorem DroppedFree.keeps_dropped {f : State → Result} (hf : DroppedFree f) {s t : State} (h : f s = .next t) :
    t.status.dropped = s.status.dropped := by
  have hself : Host.Outcome.next t = mapNext (setDropped s.status.dropped) (.next t) := by
    rw [← h, ← hf, setDropped_self]
  have ht : t = setDropped s.status.dropped t := Host.Outcome.next.inj hself
  rw [ht, setDropped_dropped]

/-! ## What lowers DROPPED -/

/-- A write that is stored leaves DROPPED alone; acceptance too, which moves BUSY and DONE (R170). -/
theorem storeReg_dropped (r : Reg) (v : Word) (s : State) : (storeReg r v s).status.dropped = s.status.dropped := by
  cases r <;> rfl

/-- The bus agent has no access to STATUS (R108). -/
theorem busTurn_status {s t : State} (h : busTurn s = .next t) : t.status = s.status := by
  obtain rfl | ⟨-, -, a, q, n, rfl⟩ := busTurn_cases h <;> rfl

/-- The host lowers DROPPED by a write of 1 to STATUS bit 4 alone (R23). -/
theorem exists_write_of_hostTurn_dropped {s : State} (hs : s.status.dropped = true)
    (ht : (hostTurn s).status.dropped = false) :
    ∃ v : Word, v.getLsbD 4 = true ∧
      (draw s.env.hostQueue Config.hostTransaction s.env.draws).1 = .write 1 v := by
  obtain ⟨env, -, -, -, -, ⟨d, heq, hd⟩ | ⟨-, r, v, -, heq⟩⟩ := hostTurn_cases s
  · have hfalse : d = false := by rw [heq] at ht; exact ht
    obtain hkept | ⟨hraised, -⟩ | hcleared := hd
    · simp [hkept, hs] at hfalse
    · simp [hraised] at hfalse
    · exact hcleared
  · rw [heq, storeReg_dropped] at ht
    exact absurd (hs.symm.trans ht) (by decide)

/-- Settles O47: the cascade's line for a busy write, the turns that can lower DROPPED, and the block's independence of
it. -/
theorem droppedIsStickyAndHarmless : Obligations.DroppedIsStickyAndHarmless := by
  refine ⟨?busyWrite, ?sticky, ?harmless⟩
  case busyWrite =>
    intro s i v hbusy hi
    obtain ⟨-, -, hdropped, -⟩ := hostWriteCascade s i v
    exact hdropped hi hbusy
  case sticky =>
    intro s t hstep hs ht
    have hfalls : t.status.dropped ≠ s.status.dropped := by simp [hs, ht]
    obtain ⟨hturn, rfl⟩ | ⟨-, hblock⟩ | ⟨-, hbus⟩ | ⟨-, rfl⟩ | ⟨hturn, -⟩ := step_cases hstep
    · exact .inr ⟨hturn, exists_write_of_hostTurn_dropped (s := afterTurn s) hs ht⟩
    · exact absurd (blockTurn_droppedFree.keeps_dropped hblock) hfalls
    · exact absurd (congrArg Status.dropped (busTurn_status hbus)) hfalls
    · exact absurd rfl hfalls
    · exact .inl hturn
  case harmless =>
    intro s t d hblock
    have hcommute := blockTurn_droppedFree d s
    rw [hblock] at hcommute
    exact hcommute

end Sys2Proof.Machine

/-!
Encodings: the decoder on encoded words and the encoder on decoded ones (R71, R72, R77, R80), the eight outbound frames
(R79) and the configuration byte (R78).
-/

namespace Sys2Proof.Machine

/-! ## Command words by their fields (R71) -/

/-- A command word is its four fields: VALUE, CHAN, the ignored bits 7:4 and OP. -/
theorem word_eq_fields (w : Word) :
    w = w.extractLsb' 16 16 ++ w.extractLsb' 8 8 ++ w.extractLsb' 4 4 ++ w.extractLsb' 0 4 := by
  have hchan : w.extractLsb' 16 16 ++ w.extractLsb' 8 8 = w.extractLsb' 8 24 :=
    BitVec.extractLsb'_append_extractLsb'_eq_extractLsb' rfl
  have hignored : w.extractLsb' 8 24 ++ w.extractLsb' 4 4 = w.extractLsb' 4 28 :=
    BitVec.extractLsb'_append_extractLsb'_eq_extractLsb' rfl
  have hop : w.extractLsb' 4 28 ++ w.extractLsb' 0 4 = w.extractLsb' 0 32 :=
    BitVec.extractLsb'_append_extractLsb'_eq_extractLsb' rfl
  rw [hchan, hignored, hop, BitVec.extractLsb'_eq_self]

theorem opField_append (op ignored : BitVec 4) (chan : BitVec 8) (value : BitVec 16) :
    opField (value ++ chan ++ ignored ++ op) = op.toNat :=
  congrArg BitVec.toNat BitVec.extractLsb'_append_eq_right

theorem chanField_append (op ignored : BitVec 4) (chan : BitVec 8) (value : BitVec 16) :
    chanField (value ++ chan ++ ignored ++ op) = chan.toNat := by
  rw [chanField, BitVec.extractLsb'_append_eq_of_le (by decide), BitVec.extractLsb'_append_eq_of_le (by decide)]
  exact congrArg BitVec.toNat BitVec.extractLsb'_append_eq_right

theorem valueField_append (op ignored : BitVec 4) (chan : BitVec 8) (value : BitVec 16) :
    valueField (value ++ chan ++ ignored ++ op) = value.toNat := by
  rw [valueField, BitVec.extractLsb'_append_eq_of_le (by decide), BitVec.extractLsb'_append_eq_of_le (by decide)]
  exact congrArg BitVec.toNat BitVec.extractLsb'_append_eq_left

/-! ## Decode after encode -/

/-- An outbound frame of a channel selector decodes to the selector's row (R77, R79). -/
theorem decode_channelSelect : ∀ sel : BitVec 3, decode (channelSelect sel) = .ok (selectorInstr sel) := by decide

/-- A CHAN of R85 stands in its field whole. -/
theorem toNat_of_chanFits {ch : Nat} (h : chanFits ch = true) : (BitVec.ofNat 8 ch).toNat = ch :=
  Nat.mod_eq_of_lt (Nat.lt_succ_of_le (of_decide_eq_true h))

/-- A VALUE of R85 stands in its field whole. -/
theorem toNat_of_valueFits {v : Nat} (h : valueFits v = true) : (BitVec.ofNat 16 v).toNat = v :=
  Nat.mod_eq_of_lt (Nat.lt_succ_of_le (of_decide_eq_true h))

/-- Settles O2: row by row, the fields of the encoded word are the OP of the row and its operand. -/
theorem decodeOfEncodeIsTheInstruction : Obligations.DecodeOfEncodeIsTheInstruction := by
  intro i hwf
  cases i with
  | frame ch | read ch | sample ch =>
    simp only [encode, cmdWord, decode, decodeCmd, opField_append, chanField_append, toNat_of_chanFits hwf]
    rfl
  | trackPush v =>
    simp only [encode, cmdWord, decode, decodeCmd, opField_append, valueField_append, toNat_of_valueFits hwf]
    rfl
  | adcSeCh0 | adcSeCh1 | adcSeCh2 | adcSeCh3 | adcSeCh4 | adcSeCh5 | adcSeCh6 | adcSeCh7 =>
    exact decode_channelSelect _
  | adcResult rx0 rx1 rx2 => rfl
  | nop | decode | trackClear | peak | rescale => rfl
  | reserved9 | reservedA | reservedB | reservedC | reservedD | reservedE | reservedF => rfl

/-! ## Encode after decode -/

theorem ofNat_opField (w : Word) : BitVec.ofNat 4 (opField w) = w.extractLsb' 0 4 := by
  rw [opField, BitVec.ofNat_toNat, BitVec.setWidth_eq]

theorem ofNat_chanField (w : Word) : BitVec.ofNat 8 (chanField w) = w.extractLsb' 8 8 := by
  rw [chanField, BitVec.ofNat_toNat, BitVec.setWidth_eq]

theorem ofNat_valueField (w : Word) : BitVec.ofNat 16 (valueField w) = w.extractLsb' 16 16 := by
  rw [valueField, BitVec.ofNat_toNat, BitVec.setWidth_eq]

/-- The encoding of a decoded word puts its OP back, its CHAN where the OP takes one, and its VALUE where it takes one
(R72). -/
theorem encode_decodeCmd (w : Word) :
    encode (decodeCmd w) = cmdWord (w.extractLsb' 0 4)
      (if opField w = 1 ∨ opField w = 3 ∨ opField w = 8 then w.extractLsb' 8 8 else 0)
      (if opField w = 5 then w.extractLsb' 16 16 else 0) := by
  have hlt : opField w < 16 := (w.extractLsb' 0 4).isLt
  rw [← ofNat_opField, ← ofNat_chanField, ← ofNat_valueField, decodeCmd]
  generalize opField w = op at hlt ⊢
  match op with
  | 0 | 1 | 2 | 3 | 4 | 5 | 6 | 7 | 8 | 9 | 10 | 11 | 12 | 13 | 14 | 15 => rfl
  | _ + 16 => omega

/-- A mask on a command word is a mask on each of its fields. -/
theorem word_and_fields (w : Word) (value : BitVec 16) (chan : BitVec 8) (ignored op : BitVec 4) :
    w &&& (value ++ chan ++ ignored ++ op) =
      (w.extractLsb' 16 16 &&& value) ++ (w.extractLsb' 8 8 &&& chan) ++ (w.extractLsb' 4 4 &&& ignored) ++
        (w.extractLsb' 0 4 &&& op) := by
  conv_lhs => rw [word_eq_fields w]
  rw [BitVec.and_append, BitVec.and_append, BitVec.and_append]

/-- The masks of R72: OP alone, OP with CHAN, and OP with VALUE. -/
theorem cmdWord_op (w : Word) : cmdWord (w.extractLsb' 0 4) 0 0 = .cmd32 (w &&& 0x0000000F#32) := by
  have hmask : 0x0000000F#32 = 0#16 ++ 0#8 ++ 0#4 ++ BitVec.allOnes 4 := rfl
  rw [hmask, word_and_fields]
  simp only [BitVec.and_zero, BitVec.and_allOnes]
  rfl

theorem cmdWord_op_chan (w : Word) :
    cmdWord (w.extractLsb' 0 4) (w.extractLsb' 8 8) 0 = .cmd32 (w &&& 0x0000FF0F#32) := by
  have hmask : 0x0000FF0F#32 = 0#16 ++ BitVec.allOnes 8 ++ 0#4 ++ BitVec.allOnes 4 := rfl
  rw [hmask, word_and_fields]
  simp only [BitVec.and_zero, BitVec.and_allOnes]
  rfl

theorem cmdWord_op_value (w : Word) :
    cmdWord (w.extractLsb' 0 4) 0 (w.extractLsb' 16 16) = .cmd32 (w &&& 0xFFFF000F#32) := by
  have hmask : 0xFFFF000F#32 = BitVec.allOnes 16 ++ 0#8 ++ 0#4 ++ BitVec.allOnes 4 := rfl
  rw [hmask, word_and_fields]
  simp only [BitVec.and_zero, BitVec.and_allOnes]
  rfl

/-! ## Outbound frames (R77, R79) -/

/-- The frames of `Frame(ch)` are the eight values of R79. -/
theorem isChannelSelect_iff (b0 b1 b2 : Byte) :
    isChannelSelect b0 b1 b2 = true ↔ ∃ ch : Fin 8, b0 = startByte ∧ b1 = configByte ch ∧ b2 = padByte := by
  have hconfig : ∀ b : Byte, (b.extractLsb' 7 1 = 1#1 ∧ b.extractLsb' 0 4 = 0#4) ↔ ∃ ch : Fin 8, b = configByte ch := by
    decide
  simp only [isChannelSelect, Bool.and_eq_true, beq_iff_eq]
  constructor
  · rintro ⟨⟨⟨h0, h7⟩, hlow⟩, h2⟩
    obtain ⟨ch, h1⟩ := (hconfig b1).mp ⟨h7, hlow⟩
    exact ⟨ch, h0, h1, h2⟩
  · rintro ⟨ch, h0, h1, h2⟩
    obtain ⟨h7, hlow⟩ := (hconfig b1).mpr ⟨ch, h1⟩
    exact ⟨⟨⟨h0, h7⟩, hlow⟩, h2⟩

/-- Three bytes are told from their packing. -/
theorem pack24_inj {a0 a1 a2 b0 b1 b2 : Byte} :
    pack24 a0 a1 a2 = pack24 b0 b1 b2 ↔ a0 = b0 ∧ a1 = b1 ∧ a2 = b2 := by
  have ha1 := a1.isLt
  have ha2 := a2.isLt
  have hb1 := b1.isLt
  have hb2 := b2.isLt
  simp only [← BitVec.toNat_inj, pack24_toNat]
  omega

/-- The same on the packed frame: it is the frame of a channel. -/
theorem isChannelSelect_iff_frameWord (b0 b1 b2 : Byte) :
    isChannelSelect b0 b1 b2 = true ↔ ∃ ch : Fin 8, pack24 b0 b1 b2 = frameWord ch := by
  simp only [isChannelSelect_iff, frameWord, pack24_inj]

/-- R79's list. -/
theorem exists_frameWord_iff (f : Frame24) :
    (∃ ch : Fin 8, f = frameWord ch) ↔
      f ∈ [0x018000#24, 0x019000, 0x01A000, 0x01B000, 0x01C000, 0x01D000, 0x01E000, 0x01F000] := by
  have hlist : [0x018000#24, 0x019000, 0x01A000, 0x01B000, 0x01C000, 0x01D000, 0x01E000, 0x01F000] =
      (List.finRange 8).map frameWord := by decide
  simp only [hlist, List.mem_map, List.mem_finRange, true_and, eq_comm]

/-- An outbound word decodes exactly if it passes the test for a channel-select frame. -/
theorem decode_outbound_iff (b0 b1 b2 : Byte) :
    (∃ i, decode (.adcTx24 b0 b1 b2) = .ok i) ↔ isChannelSelect b0 b1 b2 = true := by
  rw [decode]
  split
  case isTrue h => exact iff_of_true ⟨_, rfl⟩ h
  case isFalse h => exact iff_of_false nofun h

/-- A channel-select frame is what its selector encodes to (R77). -/
theorem encode_selectorInstr {b0 b1 b2 : Byte} (h : isChannelSelect b0 b1 b2 = true) :
    encode (selectorInstr (b1.extractLsb' 4 3)) = .adcTx24 b0 b1 b2 := by
  obtain ⟨ch, rfl, rfl, rfl⟩ := (isChannelSelect_iff b0 b1 b2).mp h
  revert ch
  decide

/-- Settles O3: a bus frame is its own row, and a command word keeps the fields its OP takes. -/
theorem encodeOfDecodeKeepsTheUsedFields : Obligations.EncodeOfDecodeKeepsTheUsedFields := by
  refine ⟨fun p i hp hi => ?frame, fun w i hi => ?command⟩
  case frame =>
    cases p with
    | cmd32 w => exact absurd rfl hp
    | adcTx24 b0 b1 b2 =>
      have hsel := (decode_outbound_iff b0 b1 b2).mp ⟨i, hi⟩
      rw [decode, if_pos hsel] at hi
      cases hi
      exact encode_selectorInstr hsel
    | adcRx24 b0 b1 b2 =>
      cases hi
      rfl
  case command =>
    cases hi
    rw [encode_decodeCmd]
    by_cases hchan : opField w = 1 ∨ opField w = 3 ∨ opField w = 8
    · have hvalue : opField w ≠ 5 := by omega
      rw [if_pos hchan, if_pos hchan, if_neg hvalue]
      exact cmdWord_op_chan w
    · rw [if_neg hchan, if_neg hchan]
      split
      case isTrue => exact cmdWord_op_value w
      case isFalse => exact cmdWord_op w

/-- Settles O1: each word's fields, evaluated. -/
theorem writtenWordsDecode : Obligations.WrittenWordsDecode :=
  ⟨rfl, rfl, rfl, rfl, rfl, rfl, rfl, rfl, rfl, rfl, rfl⟩

/-- Settles O12: R78's domain is the eight channels. -/
theorem configurationByteBothFormulas : Obligations.ConfigurationByteBothFormulas := by
  refine ⟨?_, rfl⟩
  decide

end Sys2Proof.Machine

/-!
Rules about every step of the machine: the bus port holds the frame of a channel, issued while none was pending (R61,
R79), the measurements change at completion alone (R63, R171), an error writes STATUS alone (R204), the operands of a
running command stand (R24), and time never falls (R211).
-/

namespace Sys2Proof.Machine

/-! ## The host's turn -/

/-- While busy the host's turn moves DROPPED and the host's own data, and nothing else (R52). -/
theorem hostTurn_of_busy {s : State} (hbusy : s.status.busy = true) :
    ∃ (env : Env) (d : Bool), env.clock = s.env.clock ∧ env.schedule = s.env.schedule ∧
      hostTurn s = { s with env := env, status := { s.status with dropped := d } } := by
  obtain ⟨env, hclock, hschedule, -, -, ⟨d, heq, -⟩ | ⟨hidle, -⟩⟩ := hostTurn_cases s
  · exact ⟨env, d, hclock, hschedule, heq⟩
  · exact absurd (hbusy.symm.trans hidle) (by decide)

/-- What a command reports: P2P, RESULT, EMPTY, NEG and ERR (R63). -/
def measurements (s : State) : Word × Word × Bool × Bool × BitVec 4 :=
  (s.p2p, s.result, s.status.empty, s.status.neg, s.status.err)

theorem measurements_eq_iff (s t : State) :
    measurements t = measurements s ↔ t.p2p = s.p2p ∧ t.result = s.result ∧ t.status.empty = s.status.empty ∧
      t.status.neg = s.status.neg ∧ t.status.err = s.status.err := by
  simp only [measurements, Prod.mk.injEq]

/-- A host's store writes no measurement (R52), and none of the bus port (R58). -/
theorem storeReg_keeps (r : Reg) (v : Word) (s : State) :
    measurements (storeReg r v s) = measurements s ∧ (storeReg r v s).pending = s.pending ∧
      (storeReg r v s).bus = s.bus ∧ (storeReg r v s).env = s.env := by
  cases r <;> exact ⟨rfl, rfl, rfl, rfl⟩

/-- The host's turn writes no measurement, moves no bus port and stops no clock. -/
theorem hostTurn_keeps (s : State) :
    measurements (hostTurn s) = measurements s ∧ (hostTurn s).pending = s.pending ∧ (hostTurn s).bus = s.bus ∧
      (hostTurn s).env.clock = s.env.clock := by
  obtain ⟨env, hclock, -, -, -, ⟨d, heq, -⟩ | ⟨-, r, v, -, heq⟩⟩ := hostTurn_cases s
  · rw [heq]
    exact ⟨rfl, rfl, rfl, hclock⟩
  · obtain ⟨hmeasurements, hpending, hbus, henv⟩ := storeReg_keeps r v { s with env := env }
    rw [heq]
    exact ⟨hmeasurements, hpending, hbus, (congrArg Env.clock henv).trans hclock⟩

/-! ## The bus port -/

/-- A frame on the bus port after the block's turn was there before it, or it is a channel's frame, issued while none
was pending (R58, R79). -/
theorem blockTurn_bus_issued {s t : State} (h : blockTurn s = .next t) {b0 b1 b2 : Byte}
    (ht : t.bus = .issued b0 b1 b2) :
    s.bus = .issued b0 b1 b2 ∨
      s.pending = false ∧ ∃ ch, b0 = startByte ∧ b1 = configByte ch ∧ b2 = padByte := by
  obtain rfl | ⟨-, e, u, -, hu, rfl⟩ | ⟨-, tx, raw, tr, p2p, em, ne, res, rfl⟩ | ⟨-, -, rfl⟩ |
    ⟨hpending, ch, w, -, rfl⟩ | ⟨-, rfl⟩ | ⟨-, a0, a1, a2, -, rfl⟩ | ⟨-, a0, a1, a2, -, rfl⟩ := blockTurn_cases h
  · exact .inl ht
  · obtain rfl | rfl := hu
    · exact .inl ht
    · cases ht
  · exact .inl ht
  · exact .inl ht
  · cases ht
    exact .inr ⟨hpending, ch, rfl, rfl, rfl⟩
  · exact .inl ht
  · cases ht
  · cases ht

/-- The same of every step: no other agent puts a frame on the port. -/
theorem step_bus_issued {s t : State} (h : step s = .next t) {b0 b1 b2 : Byte} (ht : t.bus = .issued b0 b1 b2) :
    s.bus = .issued b0 b1 b2 ∨
      s.pending = false ∧ ∃ ch, b0 = startByte ∧ b1 = configByte ch ∧ b2 = padByte := by
  obtain ⟨-, rfl⟩ | ⟨-, hblock⟩ | ⟨-, hbus⟩ | ⟨-, rfl⟩ | ⟨-, rfl⟩ := step_cases h
  · obtain ⟨-, -, hkept, -⟩ := hostTurn_keeps (afterTurn s)
    exact .inl (hkept.symm.trans ht)
  · exact blockTurn_bus_issued hblock ht
  · obtain rfl | ⟨-, -, a, q, n, rfl⟩ := busTurn_cases hbus
    · exact .inl ht
    · cases ht
  · exact .inl ht
  · cases ht

/-- Settles O5: the decoder's test is R79's list, and a frame that a step puts on the port is the frame of a channel. -/
theorem emittedFramesAreTheEight : Obligations.EmittedFramesAreTheEight := by
  refine ⟨fun b0 b1 b2 => ?decodes, fun s t b0 b1 b2 hstep ht hs => ?emitted⟩
  case decodes => rw [decode_outbound_iff, isChannelSelect_iff_frameWord, exists_frameWord_iff]
  case emitted =>
    obtain hsame | ⟨-, ch, rfl, rfl, rfl⟩ := step_bus_issued hstep ht
    · exact absurd hsame hs
    · exact ⟨ch, frameWord_eq ch⟩

/-- Settles O59: a new frame is issued only while none is pending. -/
theorem noSecondFrameWhilePending : Obligations.NoSecondFrameWhilePending := by
  intro s t b0 b1 b2 hstep hpending ht
  obtain hsame | ⟨hquiet, -⟩ := step_bus_issued hstep ht
  · exact hsame
  · exact absurd (hpending.symm.trans hquiet) (by decide)

/-! ## Completion -/

/-- The block's turn writes a measurement only where it completes a command (R171). -/
theorem blockTurn_measurements {s t : State} (h : blockTurn s = .next t) :
    measurements t = measurements s ∨
      s.phase ≠ .idle ∧ t.phase = .idle ∧ t.status.busy = false ∧ t.status.done = true := by
  obtain rfl | ⟨hp, e, u, -, -, rfl⟩ | ⟨hp, tx, raw, tr, p2p, em, ne, res, rfl⟩ | ⟨hp, -, rfl⟩ |
    ⟨-, ch, w, -, rfl⟩ | ⟨-, rfl⟩ | ⟨hp, a0, a1, a2, -, rfl⟩ | ⟨-, a0, a1, a2, -, rfl⟩ := blockTurn_cases h
  · exact .inl rfl
  · exact .inr ⟨hp, rfl, rfl, rfl⟩
  · exact .inr ⟨by simp [hp], rfl, rfl, rfl⟩
  · exact .inr ⟨by simp [hp], rfl, rfl, rfl⟩
  · exact .inl rfl
  · exact .inl rfl
  · exact .inr ⟨by simp [hp], rfl, rfl, rfl⟩
  · exact .inl rfl

theorem busTurn_measurements {s t : State} (h : busTurn s = .next t) : measurements t = measurements s := by
  obtain rfl | ⟨-, -, a, q, n, rfl⟩ := busTurn_cases h <;> rfl

/-- Settles O55: of the agents other than the platform only the block writes a measurement, in completing. -/
theorem measurementsChangeOnlyAtCompletion : Obligations.MeasurementsChangeOnlyAtCompletion := by
  intro s t hstep hplatform hchange
  have hne : measurements t ≠ measurements s := by
    rw [Ne, measurements_eq_iff]
    tauto
  obtain ⟨-, rfl⟩ | ⟨hturn, hblock⟩ | ⟨-, hbus⟩ | ⟨-, rfl⟩ | ⟨hturn, -⟩ := step_cases hstep
  · obtain ⟨hkept, -⟩ := hostTurn_keeps (afterTurn s)
    exact absurd hkept hne
  · exact ⟨hturn, (blockTurn_measurements hblock).resolve_left hne⟩
  · exact absurd (busTurn_measurements hbus) hne
  · exact absurd rfl hne
  · exact absurd hturn hplatform

/-- The block's turn ends a command in error only by `complete`, at most after the end of the transfer (R204). -/
theorem blockTurn_error {s t : State} (h : blockTurn s = .next t) (hp : s.phase ≠ .idle) (ht : t.phase = .idle)
    (herr : t.status.err ≠ 0) : ∃ e u, (u = s ∨ u = consume s) ∧ t = complete e u := by
  obtain rfl | ⟨-, e, u, -, hu, rfl⟩ | ⟨-, tx, raw, tr, p2p, em, ne, res, rfl⟩ | ⟨-, -, rfl⟩ |
    ⟨-, ch, w, hw, rfl⟩ | ⟨-, rfl⟩ | ⟨-, a0, a1, a2, -, rfl⟩ | ⟨-, a0, a1, a2, -, rfl⟩ := blockTurn_cases h
  · exact absurd ht hp
  · exact ⟨e, u, hu, rfl⟩
  · exact absurd rfl herr
  · exact absurd rfl herr
  · exact absurd ht hw
  · cases ht
  · exact absurd rfl herr
  · cases ht

/-- Settles O56: `complete`, alone or after `consume`, writes no register but STATUS. -/
theorem errorCompletionWritesOnlyStatus : Obligations.ErrorCompletionWritesOnlyStatus := by
  intro s t hstep hturn hp ht herr
  rw [step_of_block hturn] at hstep
  obtain ⟨e, u, rfl | rfl, rfl⟩ := blockTurn_error hstep hp ht herr
  · obtain ⟨hregs, ht0, -, -, henv⟩ := complete_onlyRegsChange e (afterTurn s)
    exact ⟨complete_completed e (afterTurn s), hregs, ht0, henv⟩
  · exact ⟨complete_completed_of_status_eq (consume_status (afterTurn s)) e,
      (consume_onlyRegsAndBusChange (afterTurn s)).then_complete e⟩

/-! ## Operands and time -/

/-- The registers a running command reads as its operands: CMD, CTRL, WINDOW_MS, SCALE_MAX and RESCALE's (R24, R140). -/
def operands (s : State) : Word × TrkMode × Word × Word × RsOperands :=
  (s.cmd, s.trkMode, s.windowMs, s.scaleMax, s.rs)

theorem operands_eq_iff (s t : State) :
    operands t = operands s ↔ t.cmd = s.cmd ∧ t.trkMode = s.trkMode ∧ t.windowMs = s.windowMs ∧
      t.scaleMax = s.scaleMax ∧ t.rs = s.rs := by
  simp only [operands, Prod.mk.injEq]

/-- The block writes no operand, and does not touch the clock. -/
theorem blockTurn_operands {s t : State} (h : blockTurn s = .next t) :
    operands t = operands s ∧ t.env = s.env := by
  obtain rfl | ⟨-, e, u, -, rfl | rfl, rfl⟩ | ⟨-, tx, raw, tr, p2p, em, ne, res, rfl⟩ | ⟨-, -, rfl⟩ |
    ⟨-, ch, w, -, rfl⟩ | ⟨-, rfl⟩ | ⟨-, a0, a1, a2, -, rfl⟩ | ⟨-, a0, a1, a2, -, rfl⟩ := blockTurn_cases h
  all_goals exact ⟨rfl, rfl⟩

/-- Nor does the bus agent. -/
theorem busTurn_operands {s t : State} (h : busTurn s = .next t) :
    operands t = operands s ∧ t.env.clock = s.env.clock := by
  obtain rfl | ⟨-, -, a, q, n, rfl⟩ := busTurn_cases h <;> exact ⟨rfl, rfl⟩

/-- Settles O57: the host's stores wait for the command's end, and the other agents write no operand. -/
theorem operandsStandWhileBusy : Obligations.OperandsStandWhileBusy := by
  intro s t hstep hbusy hplatform
  rw [← operands_eq_iff]
  obtain ⟨-, rfl⟩ | ⟨-, hblock⟩ | ⟨-, hbus⟩ | ⟨-, rfl⟩ | ⟨hturn, -⟩ := step_cases hstep
  · obtain ⟨env, d, -, -, heq⟩ := hostTurn_of_busy (s := afterTurn s) hbusy
    rw [heq]
    rfl
  · exact (blockTurn_operands hblock).1
  · exact (busTurn_operands hbus).1
  · rfl
  · exact absurd hturn hplatform

/-- Settles O58: the timebase alone moves the clock, and it adds to it. -/
theorem timeNeverFalls : Obligations.TimeNeverFalls := by
  intro s t hstep
  obtain ⟨-, rfl⟩ | ⟨-, hblock⟩ | ⟨-, hbus⟩ | ⟨-, rfl⟩ | ⟨-, rfl⟩ := step_cases hstep
  · obtain ⟨-, -, -, hclock⟩ := hostTurn_keeps (afterTurn s)
    exact hclock.ge
  · obtain ⟨-, henv⟩ := blockTurn_operands hblock
    exact (congrArg Env.clock henv).ge
  · exact (busTurn_operands hbus).2.ge
  · exact Nat.le_add_right s.env.clock _
  · exact Nat.le_refl s.env.clock

end Sys2Proof.Machine

/-!
One turn of one agent, on the state it runs on: what the step of R181 and of R108 is in each phase, SAMPLE's start,
check and finish (R173, R174, R177), the host's acceptance of a command (R170), and reset (R230).
-/

namespace Sys2Proof.Machine

/-! ## The turns (R62) -/

theorem step_of_bus {s : State} (hturn : nextAgent s = .bus) : step s = busTurn (afterTurn s) := by
  rw [step, hturn, turn]

theorem step_of_host {s : State} (hturn : nextAgent s = .host) : step s = .next (hostTurn (afterTurn s)) := by
  rw [step, hturn, turn]

theorem step_of_platform {s : State} (hturn : nextAgent s = .platform) :
    step s = .next (resetBlock (afterTurn s)) := by
  rw [step, hturn, turn]

/-- A port word that decodes runs its row. -/
theorem runWord_of_decode {p : PortWord} {i : Instr} (h : decode p = .ok i) (s : State) : runWord p s = exec i s := by
  rw [runWord, h]

theorem fetchFrame_of_issued {s : State} {b0 b1 b2 : Byte} (hpending : s.pending = true)
    (hbus : s.bus = .issued b0 b1 b2) : fetchFrame s = some (.adcTx24 b0 b1 b2) := by
  rw [fetchFrame, hpending, hbus]

theorem fetchFrame_of_not_pending {s : State} (hpending : s.pending = false) : fetchFrame s = none := by
  rw [fetchFrame, hpending]

theorem fetchAnswer_of_answered {s : State} {a : BusAnswer} (hbus : s.bus = .answered a) : fetchAnswer s = some a := by
  rw [fetchAnswer, hbus]

theorem fetchAnswer_of_not_answered {s : State} (hbus : ∀ a, s.bus ≠ .answered a) : fetchAnswer s = none := by
  rw [fetchAnswer]
  split
  case h_1 a ha => exact absurd ha (hbus a)
  all_goals rfl

/-- The bus agent's turn on a pending frame runs the frame's row (R108). -/
theorem busTurn_of_issued {s : State} {b0 b1 b2 : Byte} (hpending : s.pending = true)
    (hbus : s.bus = .issued b0 b1 b2) : busTurn s = runWord (.adcTx24 b0 b1 b2) s := by
  rw [busTurn, fetchFrame_of_issued hpending hbus]

theorem busTurn_of_not_pending {s : State} (hpending : s.pending = false) : busTurn s = .next s := by
  rw [busTurn, fetchFrame_of_not_pending hpending]

/-- The turn of an idle block (R181). -/
theorem blockTurn_of_idle {s : State} (hp : s.phase = .idle) : blockTurn s = .next s := by
  rw [blockTurn, hp]

theorem blockTurn_of_sampleCheck {s : State} (hp : s.phase = .sampleCheck) : blockTurn s = windowCheck s := by
  rw [blockTurn, hp]

/-- The turn of a waiting block, in either phase (R181). -/
theorem blockTurn_of_waiting {s : State} (hp : waiting s.phase) : blockTurn s = waitStep s := by
  obtain hp | hp := hp <;> rw [blockTurn, hp]

/-- A waiting block whose transfer has been answered runs the inbound frame. -/
theorem blockTurn_of_ok {s : State} {b0 b1 b2 : Byte} (hp : waiting s.phase) (hbus : s.bus = .answered (.ok b0 b1 b2)) :
    blockTurn s = exec (.adcResult b0 b1 b2) s := by
  rw [blockTurn_of_waiting hp, waitStep, fetchAnswer_of_answered hbus]
  exact runWord_inbound b0 b1 b2 s

/-- A waiting block without an answer takes no step (R181; log 14). -/
theorem blockTurn_of_not_answered {s : State} (hp : waiting s.phase) (hbus : ∀ a, s.bus ≠ .answered a) :
    blockTurn s = .next s := by
  rw [blockTurn_of_waiting hp, waitStep, fetchAnswer_of_not_answered hbus]

/-- Settles O6: the decoder is total on command words, so the row is the decoded one. -/
theorem stepRunsTheAcceptedCommand : Obligations.StepRunsTheAcceptedCommand := by
  intro s i hturn hp hi
  cases hi
  exact step_of_exec hturn hp

/-- Settles O7. -/
theorem stepRunsThePendingFrame : Obligations.StepRunsThePendingFrame := by
  intro s i b0 b1 b2 hturn hpending hbus hi
  rw [step_of_bus hturn, busTurn_of_issued (s := afterTurn s) hpending hbus, runWord_of_decode hi]

/-- Settles O8. -/
theorem stepConsumesTheResponse : Obligations.StepConsumesTheResponse := by
  intro s i b0 b1 b2 hturn hp hbus hi
  cases hi
  exact (step_of_block hturn).trans (blockTurn_of_ok (s := afterTurn s) hp hbus)

/-- Settles O9: the two rows of R181 without a step. -/
theorem blockWithoutARowTakesNoStep : Obligations.BlockWithoutARowTakesNoStep := by
  intro s hturn hcase
  rw [step_of_block hturn]
  obtain hp | ⟨hp, hbus⟩ := hcase
  · exact blockTurn_of_idle (s := afterTurn s) hp
  · exact blockTurn_of_not_answered (s := afterTurn s) hp hbus

/-! ## The bus agent's answer (R108) -/

/-- The rows ADC_SE_CH0 to ADC_SE_CH7 are the bus agent's answer to the frame of their channel. -/
theorem exec_of_mem_channelRows {i : Instr}
    (hi : i ∈ [.adcSeCh0, .adcSeCh1, .adcSeCh2, .adcSeCh3, .adcSeCh4, .adcSeCh5, .adcSeCh6, .adcSeCh7]) (s : State) :
    ∃ ch, exec i s = answerFrame ch s := by
  simp only [List.mem_cons, List.not_mem_nil, or_false] at hi
  obtain rfl | rfl | rfl | rfl | rfl | rfl | rfl | rfl := hi <;> exact ⟨_, rfl⟩

/-- The state once the bus agent has delivered an answer. -/
def withAnswer (ch : Fin 8) (s : State) : State :=
  { s with
    bus := .answered (draw s.env.busQueue (Config.busAnswer ch) s.env.draws).1
    env := { s.env with
      busQueue := (draw s.env.busQueue (Config.busAnswer ch) s.env.draws).2.1
      draws := (draw s.env.busQueue (Config.busAnswer ch) s.env.draws).2.2 } }

theorem answerFrame_of_issued {ch : Fin 8} {s : State} {b0 b1 b2 : Byte} (hpending : s.pending = true)
    (hbus : s.bus = .issued b0 b1 b2) : answerFrame ch s = .next (withAnswer ch s) := by
  simp only [answerFrame, withAnswer, hpending, hbus]

/-- No frame pending, or none unanswered: no step (log 6). -/
theorem answerFrame_of_none {ch : Fin 8} {s : State} (h : s.pending = false ∨ ∀ b0 b1 b2, s.bus ≠ .issued b0 b1 b2) :
    answerFrame ch s = .next s := by
  rw [answerFrame]
  split
  case h_1 b0 b1 b2 hpending hbus =>
    obtain hquiet | hnot := h
    · exact absurd (hpending.symm.trans hquiet) (by decide)
    · exact absurd hbus (hnot b0 b1 b2)
  case h_2 => rfl

/-- An answer is no register's business. -/
theorem regValue_withAnswer (ch : Fin 8) (s : State) (r : Reg) : regValue (withAnswer ch s) r = regValue s r := by
  cases r <;> rfl

/-- Settles O42: the answer is the draw from the bus agent's queue, and past its end a free value. -/
theorem busAnswersThePendingFrameOnce : Obligations.BusAnswersThePendingFrameOnce := by
  intro s i hi
  obtain ⟨ch, hexec⟩ := exec_of_mem_channelRows hi s
  rw [hexec]
  refine ⟨fun b0 b1 b2 hpending hbus => ?_, answerFrame_of_none⟩
  refine ⟨withAnswer ch s, _, answerFrame_of_issued hpending hbus, rfl, fun a rest hqueue => ?queued,
    fun hqueue => ?free, regValue_withAnswer ch s, rfl, hpending, rfl, rfl, rfl, rfl, rfl, rfl⟩
  case queued =>
    simp only [withAnswer, hqueue]
    exact ⟨rfl, rfl, rfl⟩
  case free =>
    simp only [withAnswer, hqueue]
    exact ⟨rfl, rfl⟩

/-! ## FRAME, READ and the window's frame -/

/-- The state with another frame in TX. -/
def setTx (f : Frame24) (s : State) : State := { s with tx := f }

@[simp] theorem setTx_status (f : Frame24) (s : State) : (setTx f s).status = s.status := rfl

theorem setTx_onlyRegsChange (f : Frame24) (s : State) : OnlyRegsChange [.tx] s (setTx f s) where
  regs r hr := by
    cases r with
    | tx => exact absurd List.mem_cons_self hr
    | _ => rfl
  t0 := rfl
  pending := rfl
  bus := rfl
  env := rfl

/-- FRAME on a valid channel is one write to TX and a completion (R103). -/
theorem exec_frame_of_le {ch : Nat} (h : ch ≤ 7) (s : State) :
    exec (.frame ch) s = .next (complete .none (setTx (frameWord ⟨ch, Nat.lt_succ_of_le h⟩) s)) := by
  rw [exec, execFrame, toChannel_of_le h]
  rfl

/-- Settles O15. -/
theorem frameBuildsTheChannelSelectFrame : Obligations.FrameBuildsTheChannelSelectFrame := fun s ch h =>
  ⟨_, exec_frame_of_le h s, frameWord_eq_word ⟨ch, Nat.lt_succ_of_le h⟩,
    complete_completed_of_status_eq (setTx_status _ s) .none, (setTx_onlyRegsChange _ s).then_complete .none⟩

/-- The state once the block has issued a channel's frame and waits (R58). -/
def withFrame (ch : Fin 8) (wait : Phase) (s : State) : State :=
  { s with
    tx := frameWord ch
    pending := true
    bus := .issued startByte (configByte ch) padByte
    phase := wait }

theorem issueFrame_eq_withFrame {s : State} (hpending : s.pending = false) (ch : Fin 8) (wait : Phase) :
    issueFrame ch wait s = .next (withFrame ch wait s) :=
  issueFrame_of_not_pending hpending

/-- Issuing a frame writes TX and moves the bus port (R105, R174). -/
theorem withFrame_onlyRegsAndBusChange (ch : Fin 8) (wait : Phase) (s : State) :
    OnlyRegsAndBusChange [.tx] s (withFrame ch wait s) where
  regs r hr := by
    cases r with
    | tx => exact absurd List.mem_cons_self hr
    | _ => rfl
  t0 := rfl
  env := rfl

/-- READ on a valid channel issues its frame (R105). -/
theorem exec_read_of_channel {s : State} (hpending : s.pending = false) (ch : Fin 8) :
    exec (.read ch.val) s = .next (withFrame ch .readWait s) := by
  rw [exec, execRead, toChannel_of_le (Nat.le_of_lt_succ ch.isLt)]
  exact issueFrame_eq_withFrame hpending ch .readWait

/-- Settles O17. -/
theorem readIssuesTheFrame : Obligations.ReadIssuesTheFrame := fun s ch hpending =>
  ⟨_, exec_read_of_channel hpending ch, frameWord_eq_word ch, rfl, rfl, rfl,
    withFrame_onlyRegsAndBusChange ch .readWait s⟩

/-- A window check inside the window issues the frame of CMD's channel (R174). -/
theorem windowCheck_of_open {s : State} (hwindow : windowOpen s = true) (hpending : s.pending = false) {ch : Fin 8}
    (hchan : chanField s.cmd = ch.val) : windowCheck s = .next (withFrame ch .sampleWait s) := by
  rw [windowCheck, if_pos hwindow, hchan, toChannel_of_le (Nat.le_of_lt_succ ch.isLt)]
  exact issueFrame_eq_withFrame hpending ch .sampleWait

/-- Settles O35. -/
theorem windowCheckIssuesAFrame : Obligations.WindowCheckIssuesAFrame := by
  intro s hturn hp hpending hchan htime
  have hcheck : step s = windowCheck (afterTurn s) :=
    (step_of_block hturn).trans (blockTurn_of_sampleCheck (s := afterTurn s) hp)
  have hwindow : windowOpen (afterTurn s) = true := (windowOpen_iff _).mpr htime
  let ch : Fin 8 := ⟨chanField s.cmd, Nat.lt_succ_of_le hchan⟩
  exact ⟨_, hcheck.trans (windowCheck_of_open (ch := ch) hwindow hpending rfl), frameWord_eq_word ch, rfl, rfl, rfl,
    withFrame_onlyRegsAndBusChange ch .sampleWait (afterTurn s)⟩

/-! ## TRACK_PUSH out of range -/

/-- A VALUE above 1023 is no sample (R135). -/
theorem exec_trackPush_of_gt {v : Nat} (hv : 1023 < v) (s : State) :
    exec (.trackPush v) s = .next (complete .invalidSample s) :=
  if_pos hv

/-- Settles O24: the rejection is a completion and nothing else. -/
theorem trackPushRejectsALargeValue : Obligations.TrackPushRejectsALargeValue := fun s _ hv =>
  ⟨_, exec_trackPush_of_gt hv s, complete_completed .invalidSample s, complete_onlyRegsChange .invalidSample s⟩

/-! ## SAMPLE's start and finish -/

/-- The state once SAMPLE has started its window (R173). -/
def startWindow (s : State) : State := { clearTracker s with t0 := s.env.clock, phase := .sampleCheck }

theorem exec_sample_of_neg {ch : Nat} (h : ch ≤ 7) {s : State} (hscale : i32 s.scaleMax < 0) :
    exec (.sample ch) s = .next (complete .invalidScale s) := by
  rw [exec, execSample, toChannel_of_le h]
  exact if_pos hscale

theorem exec_sample_of_nonneg {ch : Nat} (h : ch ≤ 7) {s : State} (hscale : 0 ≤ i32 s.scaleMax) :
    exec (.sample ch) s = .next (startWindow s) := by
  rw [exec, execSample, toChannel_of_le h]
  exact if_neg (not_lt.mpr hscale)

/-- The start writes no register but the tracker's. -/
theorem regValue_startWindow {r : Reg} (hr : r ∉ [Reg.readMin, .readMax, .count]) (s : State) :
    regValue (startWindow s) r = regValue s r := by
  have hframe := (setTracker_onlyRegsChange trackClear s).then_phase .sampleCheck
  have ht0 : regValue (startWindow s) r = regValue { clearTracker s with phase := .sampleCheck } r := by
    cases r <;> rfl
  exact ht0.trans (hframe.regs r hr)

/-- Settles O34: the scale's check is the branch of the statement. -/
theorem sampleStartsTheWindow : Obligations.SampleStartsTheWindow := by
  intro s ch h
  change ∃ t, exec (.sample ch) s = .next t ∧ if i32 s.scaleMax < 0 then _ else _
  by_cases hscale : i32 s.scaleMax < 0
  case pos =>
    refine ⟨_, exec_sample_of_neg h hscale, ?_⟩
    rw [if_pos hscale]
    exact ⟨complete_completed .invalidScale s, complete_onlyRegsChange .invalidScale s⟩
  case neg =>
    refine ⟨_, exec_sample_of_nonneg h (not_lt.mp hscale), ?_⟩
    rw [if_neg hscale]
    exact ⟨rfl, rfl, rfl, fun r hr => regValue_startWindow hr s, rfl, rfl, rfl⟩

/-- Outside the window the check finishes the command (R177). -/
theorem windowCheck_of_closed {s : State} (hwindow : windowOpen s = false) :
    windowCheck s = .next (sampleFinish s) := by
  rw [windowCheck, hwindow]
  rfl

/-- SAMPLE's finish is `Peak`, a write to RESULT and a completion (R177). -/
theorem sampleFinish_eq (s : State) :
    sampleFinish s = complete .none (setResult (ofI32 (rescaleSample (i32 (peakP2p s.tracker)) (i32 s.scaleMax)))
      (storePeak s)) := rfl

theorem sampleFinish_onlyRegsChange (s : State) : OnlyRegsChange [.p2p, .result, .status] s (sampleFinish s) where
  regs r hr := by
    cases r with
    | p2p | result | status => exact absurd (by decide) hr
    | _ => rfl
  t0 := rfl
  pending := rfl
  bus := rfl
  env := rfl

/-- Settles O36: RESULT is the rescale of the P2P that the finish writes. -/
theorem windowCheckFinishes : Obligations.WindowCheckFinishes := by
  intro s hturn hp htime
  have hcheck : step s = windowCheck (afterTurn s) :=
    (step_of_block hturn).trans (blockTurn_of_sampleCheck (s := afterTurn s) hp)
  have hwindow : windowOpen (afterTurn s) = false := (windowOpen_eq_false_iff _).mpr (not_lt.mp htime)
  refine ⟨_, hcheck.trans (windowCheck_of_closed hwindow), rfl, rfl, rfl, ?result, ⟨rfl, rfl, rfl, rfl, rfl⟩,
    sampleFinish_onlyRegsChange (afterTurn s)⟩
  case result => exact congrArg ofI32 (rescaleSample_eq _ _)

/-! ## Acceptance and reset -/

/-- Acceptance writes CMD and STATUS (R170). -/
theorem regValue_accept {r : Reg} (hr : r ∉ [Reg.cmd, .status]) (w : Word) (s : State) :
    regValue (accept w s) r = regValue s r := by
  cases r with
  | cmd | status => exact absurd (by decide) hr
  | _ => rfl

/-- A write to CMD while idle is its acceptance (R52, R170). -/
theorem hostWrite_cmd_of_idle {s : State} (hidle : s.status.busy = false) (w : Word) :
    hostWrite 2 w s = accept w s :=
  hostWrite_of_idle (r := .cmd) (by decide) w hidle

/-- The host's turn on the transaction at the head of its queue. -/
theorem hostTurn_of_queue {s : State} {x : HostTxn} {rest : List HostTxn} (hqueue : s.env.hostQueue = x :: rest) :
    hostTurn s = transact x { s with env := { s.env with hostQueue := rest } } := by
  rw [hostTurn, hqueue]
  rfl

/-- Settles O48: the host's turn is the acceptance, on the state with the transaction taken. -/
theorem cmdWriteStartsTheCommand : Obligations.CmdWriteStartsTheCommand := by
  intro s w rest hturn hidle hqueue
  let u : State := { afterTurn s with env := { (afterTurn s).env with hostQueue := rest } }
  have hstep : step s = .next (accept w u) := by
    rw [step_of_host hturn, hostTurn_of_queue (s := afterTurn s) hqueue, transact,
      hostWrite_cmd_of_idle (s := u) hidle]
  have hkept : ∀ r, regValue u r = regValue s r := by
    intro r
    cases r <;> rfl
  exact ⟨_, hstep, rfl, rfl, rfl, rfl, rfl, rfl, rfl, rfl, rfl,
    fun r hr => (regValue_accept hr w u).trans (hkept r), rfl, rfl, rfl⟩

/-- Reset gives every register its value at reset, from any state (R230). -/
theorem regValue_resetBlock (s : State) (r : Reg) : regValue (resetBlock s) r = if r = .readMin then 1024 else 0 := by
  have hregs : regValue (resetBlock s) r = regValue State.reset r := by cases r <;> rfl
  exact hregs.trans (regValue_reset r)

/-- Settles O50. -/
theorem resetFromAnyState : Obligations.ResetFromAnyState := fun s hturn =>
  ⟨_, step_of_platform hturn, regValue_resetBlock (afterTurn s), rfl, rfl, rfl, rfl, rfl, rfl⟩

/-! ## Repeated host writes (R53) -/

/-- A store that starts no command, done twice, is done. -/
theorem storeReg_storeReg {r : Reg} (hcmd : r ≠ .cmd) (v : Word) (s : State) :
    storeReg r v (storeReg r v s) = storeReg r v s := by
  cases r
  case cmd => exact absurd rfl hcmd
  all_goals rfl

theorem writeStatus_writeStatus (v : Word) (s : State) : writeStatus v (writeStatus v s) = writeStatus v s := by
  simp only [writeStatus_eq, Bool.and_assoc, Bool.and_self]

/-- A store that starts no command leaves the block as idle as it was. -/
theorem storeReg_status {r : Reg} (hcmd : r ≠ .cmd) (v : Word) (s : State) : (storeReg r v s).status = s.status := by
  cases r
  case cmd => exact absurd rfl hcmd
  all_goals rfl

/-- A write to an index other than CMD's, done twice, is done: line by line of the cascade (R52, R53). -/
theorem hostWrite_hostWrite {r : Reg} (hcmd : r ≠ .cmd) (v : Word) (s : State) :
    hostWrite (regIndex r) v (hostWrite (regIndex r) v s) = hostWrite (regIndex r) v s := by
  by_cases hstatus : r = .status
  · subst hstatus
    exact writeStatus_writeStatus v s
  by_cases hro : readOnly r = true
  · rw [hostWrite_of_readOnly hro, hostWrite_of_readOnly hro]
  have hw : r ≠ .status ∧ readOnly r = false := ⟨hstatus, Bool.eq_false_of_not_eq_true hro⟩
  by_cases hbusy : s.status.busy = true
  · rw [hostWrite_of_busy hw v hbusy, hostWrite_of_busy (s := dropWrite s) hw v hbusy]
    rfl
  · have hidle : s.status.busy = false := Bool.eq_false_of_not_eq_true hbusy
    have hidle' : (storeReg r v s).status.busy = false := by rw [storeReg_status hcmd, hidle]
    rw [hostWrite_of_idle hw v hidle, hostWrite_of_idle hw v hidle', storeReg_storeReg hcmd]

/-- Settles O46: the cascade register by register; a second write to CMD finds the block busy. -/
theorem repeatedWritesAreIdempotent : Obligations.RepeatedWritesAreIdempotent := by
  refine ⟨fun s i v hi => ?_, fun s v w hidle => ?_⟩
  · obtain ⟨r, rfl⟩ | hge := eq_regIndex_or_ge i
    · have hcmd : r ≠ .cmd := by
        rintro rfl
        exact hi rfl
      exact hostWrite_hostWrite hcmd v s
    · rw [hostWrite_of_ge hge, hostWrite_of_ge hge]
  · have hdrop : hostWrite 2 w (accept v s) = dropWrite (accept v s) :=
      hostWrite_of_busy (r := .cmd) (by decide) w rfl
    rw [hostWrite_cmd_of_idle hidle, hdrop]
    exact ⟨rfl, rfl⟩

end Sys2Proof.Machine

/-!
Runs of a given schedule: the wait without an answer (R213), the response that arrives after a reset (R231), and a
SAMPLE from its execute step to its end, with no read (R178) and with any number of them (R180).
-/

namespace Sys2Proof.Machine

/-! ## Turns of a schedule -/

/-- The state with other turns scheduled. -/
def setSchedule (turns : List Agent) (s : State) : State := { s with env := { s.env with schedule := turns } }

theorem step_of_schedule_cons {s : State} {a : Agent} {rest : List Agent} (h : s.env.schedule = a :: rest) :
    step s = turn a (setSchedule rest s) :=
  step_of_schedule h

theorem step_of_schedule_block {s : State} {rest : List Agent} (h : s.env.schedule = .block :: rest) :
    step s = blockTurn (setSchedule rest s) :=
  step_of_schedule h

/-- A turn takes nothing from the schedule: the step has taken the turn itself. -/
theorem turn_schedule {a : Agent} {s t : State} (h : turn a s = .next t) : t.env.schedule = s.env.schedule := by
  cases a with
  | host =>
    cases h
    obtain ⟨env, -, hschedule, -, -, ⟨d, heq, -⟩ | ⟨-, r, v, -, heq⟩⟩ := hostTurn_cases s
    · rw [heq]
      exact hschedule
    · obtain ⟨-, -, -, henv⟩ := storeReg_keeps r v { s with env := env }
      rw [heq, henv]
      exact hschedule
  | block => exact congrArg Env.schedule (blockTurn_operands h).2
  | bus => obtain rfl | ⟨-, -, a, q, n, rfl⟩ := busTurn_cases h <;> rfl
  | timebase | platform =>
    cases h
    rfl

/-- What every allowed turn keeps, a run of allowed turns keeps. -/
theorem run_keeps {P : State → Prop} {allowed : Agent → Prop} (hschedule : ∀ l s, P s → P (setSchedule l s))
    (hturn : ∀ {a}, allowed a → ∀ {s}, P s → ∃ t, turn a s = .next t ∧ P t) (turns rest : List Agent) {s : State}
    (hs : P s) (hsched : s.env.schedule = turns ++ rest) (hallowed : ∀ a ∈ turns, allowed a) :
    ∃ t, run turns.length s = .next t ∧ P t := by
  induction turns generalizing s with
  | nil => exact ⟨s, rfl, hs⟩
  | cons a turns ih =>
    obtain ⟨u, hu, hPu⟩ := hturn (hallowed a List.mem_cons_self) (hschedule (turns ++ rest) s hs)
    have hstep : step s = .next u := (step_of_schedule_cons hsched).trans hu
    obtain ⟨t, ht, hPt⟩ := ih hPu (turn_schedule hu) fun b hb => hallowed b (List.mem_cons_of_mem a hb)
    exact ⟨t, (run_succ turns.length hstep).trans ht, hPt⟩

/-! ## The wait (R213) -/

/-- The block waits in this phase for the answer to this frame. -/
structure WaitsFor (p : Phase) (b0 b1 b2 : Byte) (s : State) : Prop where
  phase : s.phase = p
  busy : s.status.busy = true
  pending : s.pending = true
  bus : s.bus = .issued b0 b1 b2

/-- No turn of the host, the block or the timebase ends the wait: the host's stores are dropped, the block has no answer
to consume, and the timebase has no part in it. -/
theorem turn_keeps_waitsFor {p : Phase} (hp : waiting p) {b0 b1 b2 : Byte} {a : Agent}
    (ha : a ≠ .bus ∧ a ≠ .platform) {s : State} (hs : WaitsFor p b0 b1 b2 s) :
    ∃ t, turn a s = .next t ∧ WaitsFor p b0 b1 b2 t := by
  obtain ⟨hphase, hbusy, hpending, hbus⟩ := hs
  obtain ⟨hnotBus, hnotPlatform⟩ := ha
  cases a with
  | bus => exact absurd rfl hnotBus
  | platform => exact absurd rfl hnotPlatform
  | host =>
    obtain ⟨env, d, -, -, heq⟩ := hostTurn_of_busy hbusy
    exact ⟨_, congrArg Host.Outcome.next heq, hphase, hbusy, hpending, hbus⟩
  | block =>
    have hanswer : ∀ b, s.bus ≠ .answered b := fun b => by simp [hbus]
    exact ⟨s, blockTurn_of_not_answered (hphase ▸ hp) hanswer, hphase, hbusy, hpending, hbus⟩
  | timebase => exact ⟨_, rfl, hphase, hbusy, hpending, hbus⟩

/-- Settles O43: the wait is kept turn by turn. -/
theorem hangLastsUntilAnswerOrReset : Obligations.HangLastsUntilAnswerOrReset := by
  intro s turns rest b0 b1 b2 hp hbusy hpending hbus hsched hnotBus hnotPlatform
  have hallowed : ∀ a ∈ turns, a ≠ .bus ∧ a ≠ .platform := fun a ha =>
    ⟨fun h => hnotBus (h ▸ ha), fun h => hnotPlatform (h ▸ ha)⟩
  obtain ⟨t, hrun, hphase, hbusy', hpending', hbus'⟩ :=
    run_keeps (P := WaitsFor s.phase b0 b1 b2) (fun _ _ ⟨h1, h2, h3, h4⟩ => ⟨h1, h2, h3, h4⟩)
      (turn_keeps_waitsFor hp) turns rest ⟨rfl, hbusy, hpending, hbus⟩ hsched hallowed
  exact ⟨t, hrun, hphase, hbusy', hpending', hbus'⟩

/-! ## After a reset (R231) -/

/-- The block as reset leaves it, whatever stands outside. -/
def AtReset (s : State) : Prop := ∃ env, s = { State.reset with env := env }

/-- No turn of the bus agent, the block or the timebase changes a block that reset has left: no frame is pending, and
the idle block consumes nothing. -/
theorem turn_keeps_atReset {a : Agent} (ha : a = .bus ∨ a = .block ∨ a = .timebase) {s : State} (hs : AtReset s) :
    ∃ t, turn a s = .next t ∧ AtReset t := by
  obtain ⟨env, rfl⟩ := hs
  obtain rfl | rfl | rfl := ha
  · exact ⟨_, busTurn_of_not_pending (s := { State.reset with env := env }) rfl, env, rfl⟩
  · exact ⟨_, blockTurn_of_idle (s := { State.reset with env := env }) rfl, env, rfl⟩
  · exact ⟨_, rfl, _, rfl⟩

/-- An inbound frame has no effect where the block does not wait (R231; log 7). -/
theorem exec_adcResult_of_not_waiting {s : State} (hp : ¬ waiting s.phase) (b0 b1 b2 : Byte) :
    exec (.adcResult b0 b1 b2) s = .next s := by
  rw [exec, execAdcResult]
  cases h : s.phase with
  | readWait => exact absurd (.inl h) hp
  | sampleWait => exact absurd (.inr h) hp
  | idle | exec | sampleCheck => rfl

/-- Settles O51: the platform's turn resets the block, and the run after it keeps it so. -/
theorem lateResponseIsDiscarded : Obligations.LateResponseIsDiscarded := by
  refine ⟨fun s b0 b1 b2 hp => exec_adcResult_of_not_waiting hp b0 b1 b2, fun s turns rest hsched hturns => ?_⟩
  have hreset : step s = .next (resetBlock (setSchedule (turns ++ rest) s)) := step_of_schedule_cons hsched
  have hschedule : ∀ l s, AtReset s → AtReset (setSchedule l s) := by
    rintro l s ⟨env, rfl⟩
    exact ⟨{ env with schedule := l }, rfl⟩
  obtain ⟨t, hrun, env, rfl⟩ := run_keeps (P := AtReset) hschedule turn_keeps_atReset turns rest
    (s := resetBlock (setSchedule (turns ++ rest) s)) ⟨_, rfl⟩ rfl hturns
  exact ⟨_, (run_succ turns.length hreset).trans hrun, regValue_resetBlock { s with env := env }, rfl, rfl⟩

/-! ## SAMPLE without a read (R178) -/

/-- The execute step of a SAMPLE that starts its window (R173, R181). -/
theorem blockTurn_of_sample {s : State} {ch : Nat} (hp : s.phase = .exec)
    (hcmd : decode (.cmd32 s.cmd) = .ok (.sample ch)) (hch : ch ≤ 7) (hscale : 0 ≤ i32 s.scaleMax) :
    blockTurn s = .next (startWindow s) := by
  have hrow : decodeCmd s.cmd = .sample ch := Except.ok.inj hcmd
  rw [blockTurn_of_exec hp, hrow]
  exact exec_sample_of_nonneg hch hscale

/-- A window check that ends the command (R177, R181). -/
theorem blockTurn_of_window_closed {s : State} (hp : s.phase = .sampleCheck) (hwindow : windowOpen s = false) :
    blockTurn s = .next (sampleFinish s) :=
  (blockTurn_of_sampleCheck hp).trans (windowCheck_of_closed hwindow)

/-- What the finish makes of a tracker that has counted nothing (R178). -/
theorem sampleFinish_of_empty {s : State} (h : s.tracker.count = 0) :
    (sampleFinish s).p2p = 0 ∧ (sampleFinish s).status.empty = true ∧ (sampleFinish s).status.neg = false ∧
      (sampleFinish s).result = 0 := by
  obtain ⟨hp2p, hempty, hneg⟩ := peak_of_count_eq_zero h
  refine ⟨hp2p, hempty, hneg, ?_⟩
  have hzero : i32 0 = 0 := rfl
  rw [sampleFinish_result, hp2p, hzero, rescaleSample_zero]
  rfl

/-- Settles O39: the second step is a check of a window of length 0, on a tracker just cleared. -/
theorem zeroWindowReadsNothing : Obligations.ZeroWindowReadsNothing := by
  intro s ch rest hp hcmd hch hwindow hscale hsched
  let u := startWindow (setSchedule (.block :: rest) s)
  have hstart : step s = .next u :=
    (step_of_schedule_block hsched).trans (blockTurn_of_sample (s := setSchedule _ s) hp hcmd hch hscale)
  have hclosed : windowOpen (setSchedule rest u) = false := by
    rw [windowOpen_eq_false_iff]
    change (u32 s.windowMs : Int) ≤ (s.env.clock : Int) - s.env.clock
    rw [hwindow, sub_self]
    exact le_rfl
  have hfinish : step u = .next (sampleFinish (setSchedule rest u)) :=
    (step_of_schedule_block rfl).trans (blockTurn_of_window_closed rfl hclosed)
  obtain ⟨hp2p, hempty, hneg, hresult⟩ := sampleFinish_of_empty (s := setSchedule rest u) rfl
  exact ⟨_, (run_succ 1 hstart).trans (run_succ 0 hfinish), rfl, rfl, rfl, rfl, hp2p, hempty, hneg, hresult, rfl, rfl,
    rfl, rfl, rfl, rfl⟩

end Sys2Proof.Machine

/-!
The end of a SAMPLE whose reads all answer (R180): one read is four turns, any number of them is a fold, and the last
check is the finish.
-/

namespace Sys2Proof.Machine

/-! ## One read -/

/-- What a read leaves in TX, RX and RAW. -/
def readPath (ch : Fin 8) (r : SampleRead) : Frame24 × Frame24 × BitVec 10 :=
  (frameWord ch, pack24 r.rx0 r.rx1 r.rx2, decodeSample r.rx0 r.rx1 r.rx2)

/-- TX, RX and RAW. -/
def dataPath (s : State) : Frame24 × Frame24 × BitVec 10 := (s.tx, s.rx, s.raw)

/-- A running SAMPLE of this channel before a window check, whose reads all answer: the turns, the answers and the ticks
of the reads are scheduled, and the turns and ticks after them. -/
structure ReadsAhead (ch : Fin 8) (reads : List SampleRead) (turns : List Agent) (ticks : List Nat) (s : State) :
    Prop where
  phase : s.phase = .sampleCheck
  pending : s.pending = false
  chan : chanField s.cmd = ch.val
  schedule : s.env.schedule = readTurns reads ++ turns
  answers : ∃ answers, s.env.busQueue = reads.map (fun r => .ok r.rx0 r.rx1 r.rx2) ++ answers
  ticks : s.env.tickQueue = reads.map SampleRead.tick ++ ticks
  window : reads ≠ [] → (s.env.clock : Int) + timeOf reads - s.t0 < u32 s.windowMs

/-- What the reads have made of the state: the samples are pushed, the last read is in the data path, time has
passed. -/
structure ReadsDone (ch : Fin 8) (reads : List SampleRead) (s t : State) : Prop where
  operands : operands t = operands s
  tracker : t.tracker = pushes s.trkMode (samplesOf reads) s.tracker
  dataPath : dataPath t = (reads.getLast?.map (readPath ch)).getD (dataPath s)
  t0 : t.t0 = s.t0
  clock : t.env.clock = s.env.clock + timeOf reads

theorem ReadsDone.nil (ch : Fin 8) (s : State) : ReadsDone ch [] s s := ⟨rfl, rfl, rfl, rfl, rfl⟩

theorem timeOf_cons (r : SampleRead) (reads : List SampleRead) : timeOf (r :: reads) = r.tick + timeOf reads :=
  List.sum_cons

theorem timeOf_singleton (r : SampleRead) : timeOf [r] = r.tick := List.sum_singleton

/-- A read before others. -/
theorem ReadsDone.cons {ch : Fin 8} {r : SampleRead} {reads : List SampleRead} {s u t : State}
    (hfirst : ReadsDone ch [r] s u) (hrest : ReadsDone ch reads u t) : ReadsDone ch (r :: reads) s t where
  operands := hrest.operands.trans hfirst.operands
  tracker := by
    have hmode : u.trkMode = s.trkMode := ((operands_eq_iff s u).mp hfirst.operands).2.1
    rw [hrest.tracker, hfirst.tracker, hmode]
    rfl
  dataPath := by
    rw [hrest.dataPath, hfirst.dataPath, List.getLast?_cons (l := reads)]
    cases reads.getLast? <;> rfl
  t0 := hrest.t0.trans hfirst.t0
  clock := by
    rw [hrest.clock, hfirst.clock, timeOf_singleton, timeOf_cons, Nat.add_assoc]

/-- The state once a tick of the queue has passed (R211). -/
def passTime (tick : Nat) (ticks : List Nat) (s : State) : State :=
  { s with env := { s.env with clock := s.env.clock + tick, tickQueue := ticks } }

theorem timebaseTurn_of_queue {s : State} {tick : Nat} {ticks : List Nat} (h : s.env.tickQueue = tick :: ticks) :
    timebaseTurn s = passTime tick ticks s := by
  rw [timebaseTurn, h]
  rfl

/-- The state once the bus has delivered an answer of its queue (R108). -/
def takeAnswer (a : BusAnswer) (answers : List BusAnswer) (s : State) : State :=
  { s with bus := .answered a, env := { s.env with busQueue := answers } }

theorem withAnswer_of_queue {s : State} {a : BusAnswer} {answers : List BusAnswer} (h : s.env.busQueue = a :: answers)
    (ch : Fin 8) : withAnswer ch s = takeAnswer a answers s := by
  rw [withAnswer, h]
  rfl

theorem step_of_timebase_queue {s : State} {turns : List Agent} {tick : Nat} {ticks : List Nat}
    (hsched : s.env.schedule = .timebase :: turns) (hticks : s.env.tickQueue = tick :: ticks) :
    step s = .next (passTime tick ticks (setSchedule turns s)) := by
  rw [step_of_schedule_cons hsched, turn, timebaseTurn_of_queue (s := setSchedule turns s) hticks]

/-- The bus agent's turn on the frame the block has issued (R79, R108). -/
theorem busTurn_of_frame {s : State} {ch : Fin 8} (hpending : s.pending = true)
    (hbus : s.bus = .issued startByte (configByte ch) padByte) : busTurn s = .next (withAnswer ch s) := by
  rw [busTurn_of_issued hpending hbus, runWord_frame]
  exact answerFrame_of_issued hpending hbus

/-- The state once the block has pushed the sample of a response (R175). -/
def pushResponse (r : SampleRead) (s : State) : State :=
  { pushSample (decodeSample r.rx0 r.rx1 r.rx2) (receive r.rx0 r.rx1 r.rx2 s) with phase := .sampleCheck }

theorem blockTurn_of_response {s : State} {r : SampleRead} (hp : s.phase = .sampleWait)
    (hbus : s.bus = .answered (.ok r.rx0 r.rx1 r.rx2)) : blockTurn s = .next (pushResponse r s) := by
  rw [blockTurn_of_ok (.inr hp) hbus]
  exact exec_adcResult_of_sampleWait hp r.rx0 r.rx1 r.rx2

/-- The state in the middle of a read: time has passed and the check has issued the frame. -/
def afterIssue (ch : Fin 8) (r : SampleRead) (turns : List Agent) (ticks : List Nat) (s : State) : State :=
  { withFrame ch .sampleWait s with
    env := { s.env with
      schedule := .bus :: .block :: turns, tickQueue := ticks, clock := s.env.clock + r.tick } }

/-- The state after a read: the bus has answered and the block has pushed the sample. -/
def afterRead (ch : Fin 8) (r : SampleRead) (turns : List Agent) (answers : List BusAnswer) (ticks : List Nat)
    (s : State) : State :=
  { s with
    tx := frameWord ch
    rx := pack24 r.rx0 r.rx1 r.rx2
    raw := decodeSample r.rx0 r.rx1 r.rx2
    tracker := trackPush s.trkMode (decodeSample r.rx0 r.rx1 r.rx2) s.tracker
    phase := .sampleCheck
    pending := false
    bus := .quiet
    env := { s.env with
      schedule := turns, busQueue := answers, tickQueue := ticks, clock := s.env.clock + r.tick } }

theorem afterRead_readsDone (ch : Fin 8) (r : SampleRead) (turns : List Agent) (answers : List BusAnswer)
    (ticks : List Nat) (s : State) : ReadsDone ch [r] s (afterRead ch r turns answers ticks s) :=
  ⟨rfl, rfl, rfl, rfl, congrArg (s.env.clock + ·) (timeOf_singleton r).symm⟩

/-- The first two turns of a read: the check is inside the window (R174). -/
theorem run_issue {s : State} {ch : Fin 8} {r : SampleRead} {turns : List Agent} {ticks : List Nat}
    (hp : s.phase = .sampleCheck) (hpending : s.pending = false) (hchan : chanField s.cmd = ch.val)
    (hsched : s.env.schedule = .timebase :: .block :: .bus :: .block :: turns)
    (hticks : s.env.tickQueue = r.tick :: ticks)
    (hwindow : ((s.env.clock + r.tick : Nat) : Int) - s.t0 < u32 s.windowMs) :
    run 2 s = .next (afterIssue ch r turns ticks s) := by
  let u := passTime r.tick ticks (setSchedule (.block :: .bus :: .block :: turns) s)
  have htime : step s = .next u := step_of_timebase_queue hsched hticks
  have hissue : step u = .next (afterIssue ch r turns ticks s) := by
    rw [step_of_schedule_block rfl, blockTurn_of_sampleCheck (s := setSchedule _ u) hp]
    exact windowCheck_of_open (s := setSchedule (.bus :: .block :: turns) u) ((windowOpen_iff _).mpr hwindow) hpending
      hchan
  rw [run_succ 1 htime, run_succ 0 hissue, run_zero]

/-- The last two turns of a read: the bus answers, and the block pushes (R108, R175). -/
theorem run_answer {s : State} {ch : Fin 8} {r : SampleRead} {turns : List Agent} {answers : List BusAnswer}
    (hp : s.phase = .sampleWait) (hpending : s.pending = true)
    (hbus : s.bus = .issued startByte (configByte ch) padByte) (hsched : s.env.schedule = .bus :: .block :: turns)
    (hanswers : s.env.busQueue = .ok r.rx0 r.rx1 r.rx2 :: answers) :
    run 2 s = .next { pushResponse r s with env := { s.env with schedule := turns, busQueue := answers } } := by
  let u := takeAnswer (.ok r.rx0 r.rx1 r.rx2) answers (setSchedule (.block :: turns) s)
  have hanswer : step s = .next u := by
    rw [step_of_schedule_cons hsched, turn, busTurn_of_frame (s := setSchedule (.block :: turns) s) hpending hbus]
    exact congrArg Host.Outcome.next (withAnswer_of_queue (s := setSchedule (.block :: turns) s) hanswers ch)
  have hpush : step u = .next (pushResponse r (setSchedule turns u)) := by
    rw [step_of_schedule_block rfl]
    exact blockTurn_of_response (s := setSchedule turns u) hp rfl
  rw [run_succ 1 hanswer, run_succ 0 hpush, run_zero]
  rfl

/-- The four turns of a read. -/
theorem run_read {s : State} {ch : Fin 8} {r : SampleRead} {turns : List Agent} {answers : List BusAnswer}
    {ticks : List Nat} (hp : s.phase = .sampleCheck) (hpending : s.pending = false) (hchan : chanField s.cmd = ch.val)
    (hsched : s.env.schedule = .timebase :: .block :: .bus :: .block :: turns)
    (hanswers : s.env.busQueue = .ok r.rx0 r.rx1 r.rx2 :: answers) (hticks : s.env.tickQueue = r.tick :: ticks)
    (hwindow : ((s.env.clock + r.tick : Nat) : Int) - s.t0 < u32 s.windowMs) :
    run 4 s = .next (afterRead ch r turns answers ticks s) := by
  have hanswer := run_answer (s := afterIssue ch r turns ticks s) (r := r) rfl rfl rfl rfl hanswers
  rw [run_add 2 2 (run_issue hp hpending hchan hsched hticks hwindow), hanswer]
  simp only [afterRead, afterIssue, pushResponse, pushSample, receive, consume, withFrame]

/-! ## Any number of reads -/

/-- After the first read the rest is ahead. -/
theorem ReadsAhead.run_first {ch : Fin 8} {r : SampleRead} {reads : List SampleRead} {turns : List Agent}
    {ticks : List Nat} {s : State} (h : ReadsAhead ch (r :: reads) turns ticks s) :
    ∃ u, run 4 s = .next u ∧ ReadsDone ch [r] s u ∧ ReadsAhead ch reads turns ticks u := by
  obtain ⟨hp, hpending, hchan, hsched, ⟨answers, hanswers⟩, hticks, hwindow⟩ := h
  have htime := hwindow (List.cons_ne_nil r reads)
  rw [timeOf_cons] at htime
  push_cast at htime
  refine ⟨_, run_read hp hpending hchan hsched hanswers hticks (by push_cast; omega), afterRead_readsDone .., ?_⟩
  refine ⟨rfl, rfl, hchan, rfl, ⟨answers, rfl⟩, rfl, fun _ => ?_⟩
  change ((s.env.clock + r.tick : Nat) : Int) + timeOf reads - s.t0 < u32 s.windowMs
  push_cast
  omega

/-- The turns of the reads, one read after the other. -/
theorem ReadsAhead.run {ch : Fin 8} {reads : List SampleRead} {turns : List Agent} {ticks : List Nat} {s : State}
    (h : ReadsAhead ch reads turns ticks s) :
    ∃ t, run (4 * reads.length) s = .next t ∧ ReadsDone ch reads s t ∧ ReadsAhead ch [] turns ticks t := by
  induction reads generalizing s with
  | nil => exact ⟨s, rfl, .nil ch s, h⟩
  | cons r reads ih =>
    obtain ⟨u, hfirst, hdone, hahead⟩ := h.run_first
    obtain ⟨t, hrest, hdone', hahead'⟩ := ih hahead
    have hlength : 4 * (r :: reads).length = 4 + 4 * reads.length := by rw [List.length_cons]; omega
    rw [hlength, run_add 4 _ hfirst]
    exact ⟨t, hrest, hdone.cons hdone', hahead'⟩

/-! ## The tracker and RESULT at the end -/

/-- COUNT after a sequence of pushes (R11, R132). -/
theorem pushes_count_toNat (m : TrkMode) (vs : List (BitVec 10)) (t : Tracker) :
    (pushes m vs t).count.toNat = min (t.count.toNat + vs.length) (2 ^ 32 - 1) := by
  induction vs generalizing t with
  | nil =>
    have hlt := t.count.isLt
    simp only [pushes_nil, List.length_nil]
    omega
  | cons v vs ih =>
    have hpush : (trackPush m v t).count = satInc32 t.count := rfl
    rw [pushes_cons, ih, hpush, satInc32_toNat_eq_min, List.length_cons]
    omega

/-- A sequence of pushes keeps the ranges of R30 and R31, and leaves the sentinels. -/
theorem pushes_bounds (m : TrkMode) (vs : List (BitVec 10)) {t : Tracker} (hmax : t.readMax.toNat ≤ 1023)
    (hmin : t.readMin.toNat ≤ 1024) (hcount : t.count ≠ 0 → 0 < t.readMax.toNat ∨ t.readMin.toNat ≤ 1023) :
    (pushes m vs t).readMax.toNat ≤ 1023 ∧ (pushes m vs t).readMin.toNat ≤ 1024 ∧
      ((pushes m vs t).count ≠ 0 → 0 < (pushes m vs t).readMax.toNat ∨ (pushes m vs t).readMin.toNat ≤ 1023) := by
  induction vs generalizing t with
  | nil => exact ⟨hmax, hmin, hcount⟩
  | cons v vs ih =>
    obtain ⟨hmax', hmin', hleft⟩ := trackPush_bounds m v t hmax hmin
    exact ih hmax' hmin' fun _ => hleft

/-- P2P's range after any sequence of samples on a cleared tracker (R33). -/
theorem peakP2p_pushes_bounds (m : TrkMode) (vs : List (BitVec 10)) :
    -1023 ≤ i32 (peakP2p (pushes m vs trackClear)) ∧ i32 (peakP2p (pushes m vs trackClear)) ≤ 1023 := by
  obtain ⟨hmax, hmin, hcount⟩ := pushes_bounds m vs (t := trackClear) (by decide) (by decide) (by decide)
  exact peakP2p_bounds _ hmax hmin hcount

/-- SAMPLE's RESULT never overflows (R155, R177). -/
theorem i32_rescaleSample {p : Int} {scale : Word} (hlo : -1023 ≤ p) (hhi : p ≤ 1023) (hscale : 0 ≤ i32 scale) :
    i32 (ofI32 (rescaleSample p (i32 scale))) = ceilDiv (p * i32 scale) 1024 := by
  have hmax : i32 scale ≤ 2 ^ 31 - 1 := Int.le_sub_one_of_lt BitVec.toInt_lt
  rw [i32_ofI32_of_fitsI32 (rescaleSample_fitsI32 (by omega) (by omega) hscale hmax), rescaleSample_eq]

/-! ## The run (R180) -/

/-- The last two turns: time passes to the window's end, and the check finishes. -/
theorem run_finish {s : State} {turns : List Agent} {tick : Nat} {ticks : List Nat} (hp : s.phase = .sampleCheck)
    (hsched : s.env.schedule = .timebase :: .block :: turns) (hticks : s.env.tickQueue = tick :: ticks)
    (hwindow : (u32 s.windowMs : Int) ≤ ((s.env.clock + tick : Nat) : Int) - s.t0) :
    run 2 s = .next (sampleFinish (setSchedule turns (passTime tick ticks (setSchedule (.block :: turns) s)))) := by
  let u := passTime tick ticks (setSchedule (.block :: turns) s)
  have htime : step s = .next u := step_of_timebase_queue hsched hticks
  have hfinish : step u = .next (sampleFinish (setSchedule turns u)) := by
    rw [step_of_schedule_block rfl]
    exact blockTurn_of_window_closed (s := setSchedule turns u) hp ((windowOpen_eq_false_iff _).mpr hwindow)
  rw [run_succ 1 htime, run_succ 0 hfinish, run_zero]

/-- A word that decodes to SAMPLE has its OP and its channel (R72). -/
theorem fields_of_decodeCmd_eq_sample {w : Word} {ch : Nat} (h : decodeCmd w = .sample ch) :
    opField w = 8 ∧ chanField w = ch := by
  unfold decodeCmd at h
  split at h
  case h_9 hop =>
    cases h
    exact ⟨hop, rfl⟩
  all_goals cases h

/-- The data path at the end, by the last read. -/
theorem ReadsDone.dataPath_last {ch : Fin 8} {reads : List SampleRead} {s t : State} (h : ReadsDone ch reads s t) :
    (∀ r, reads.getLast? = some r →
      t.tx = 0x018000#24 ||| (BitVec.ofNat 24 ch.val <<< 12) ∧
      t.rx.toNat = r.rx0.toNat * 65536 + r.rx1.toNat * 256 + r.rx2.toNat ∧
      some t.raw = (samplesOf reads).getLast?) ∧
    (reads = [] → t.tx = s.tx ∧ t.rx = s.rx ∧ t.raw = s.raw) := by
  have hpath : (t.tx, t.rx, t.raw) = _ := h.dataPath
  refine ⟨fun r hr => ?_, fun hnil => ?_⟩
  · rw [hr, Option.map_some, Option.getD_some, readPath, Prod.mk.injEq, Prod.mk.injEq] at hpath
    obtain ⟨htx, hrx, hraw⟩ := hpath
    refine ⟨htx.trans (frameWord_eq ch), (congrArg BitVec.toNat hrx).trans (pack24_toNat r.rx0 r.rx1 r.rx2), ?_⟩
    rw [samplesOf, List.getLast?_map, hr, hraw]
    rfl
  · rw [hnil, List.getLast?_nil, Option.map_none, Option.getD_none, Machine.dataPath, Prod.mk.injEq,
      Prod.mk.injEq] at hpath
    exact hpath

/-- Settles O40: the start, the reads and the finish, one run after the other. -/
theorem sampleEndState : Obligations.SampleEndState := by
  intro s ch reads lastTick turns answers ticks hp hcmd hscale hpending hsched hanswers hticks hinside hend vs
  obtain ⟨-, hchan⟩ := fields_of_decodeCmd_eq_sample (Except.ok.inj hcmd)
  let u := startWindow (setSchedule (readTurns reads ++ (.timebase :: .block :: turns)) s)
  have hstart : step s = .next u :=
    (step_of_schedule_block hsched).trans
      (blockTurn_of_sample (s := setSchedule _ s) hp hcmd (Nat.le_of_lt_succ ch.isLt) hscale)
  have hahead : ReadsAhead ch reads (.timebase :: .block :: turns) (lastTick :: ticks) u := by
    refine ⟨rfl, hpending, hchan, rfl, ⟨answers, hanswers⟩, hticks, fun hne => ?_⟩
    have hlt := hinside hne
    change (s.env.clock : Int) + timeOf reads - s.env.clock < u32 s.windowMs
    omega
  obtain ⟨t, hreads, hdone, hlast⟩ := hahead.run
  obtain ⟨hcmd', hmode, hwindow, hscale', hrs⟩ := (operands_eq_iff u t).mp hdone.operands
  have hclosed : (u32 t.windowMs : Int) ≤ ((t.env.clock + lastTick : Nat) : Int) - t.t0 := by
    rw [hwindow, hdone.clock, hdone.t0]
    change (u32 s.windowMs : Int) ≤ ((s.env.clock + timeOf reads + lastTick : Nat) : Int) - s.env.clock
    omega
  have hfinish := run_finish hlast.phase hlast.schedule hlast.ticks hclosed
  have hrun : run (4 * reads.length + 3) s = run 2 t := by
    rw [Nat.add_succ, run_succ _ hstart, run_add _ 2 hreads]
  have htracker : t.tracker = pushes s.trkMode vs trackClear := hdone.tracker
  have hcount : t.tracker.count.toNat = min reads.length (2 ^ 32 - 1) := by
    have hzero : trackClear.count.toNat = 0 := rfl
    rw [htracker, pushes_count_toNat, hzero, Nat.zero_add]
    exact congrArg (min · (2 ^ 32 - 1)) (List.length_map _)
  have hresult : i32 (ofI32 (rescaleSample (i32 (peakP2p t.tracker)) (i32 t.scaleMax))) =
      ceilDiv (i32 (peakP2p t.tracker) * i32 s.scaleMax) 1024 := by
    obtain ⟨hlo, hhi⟩ := peakP2p_pushes_bounds s.trkMode vs
    rw [hscale', htracker]
    exact i32_rescaleSample hlo hhi hscale
  obtain ⟨hpath, hpath'⟩ := hdone.dataPath_last
  exact ⟨_, hrun.trans hfinish, htracker, hcount, hpath, hpath', rfl, rfl, rfl, hresult, rfl, rfl, rfl, rfl,
    hlast.pending, hmode, hwindow, hscale', hcmd', hrs, rfl⟩

end Sys2Proof.Machine

/-!
The invariant of every step (R42 with the control rules): it holds at reset, and from a state that meets it each turn of
each agent answers a next state that meets it again (R200). With it, a SAMPLE whose window is over ends (R212).
-/

namespace Sys2Proof.Machine

/-! ## The invariant by what it speaks of -/

/-- TX holds nothing or the frame of a channel (R42). -/
def TxInv (f : Frame24) : Prop := f = 0 ∨ ∃ ch : Fin 8, f = 0x018000#24 ||| (BitVec.ofNat 24 ch.val <<< 12)

/-- The tracker's ranges (R42), and the sentinels left once a sample has been counted (R140). -/
structure TrackerInv (t : Tracker) : Prop where
  readMax : t.readMax.toNat ≤ 1023
  readMin : t.readMin.toNat ≤ 1024
  counted : t.count ≠ 0 → 0 < t.readMax.toNat ∨ t.readMin.toNat ≤ 1023

/-- P2P's range (R33, R42). -/
def P2pInv (p : Word) : Prop := -1023 ≤ i32 p ∧ i32 p ≤ 1023

/-- The invariant of the data: the registers a command writes. -/
structure DataInv (s : State) : Prop where
  tx : TxInv s.tx
  tracker : TrackerInv s.tracker
  p2p : P2pInv s.p2p
  err : s.status.err.toNat ≤ 7

/-- The invariant of BUSY and DONE against the phase (R42, R170). -/
structure BusyInv (s : State) : Prop where
  busy : s.status.busy = true ↔ s.phase ≠ .idle
  done : s.status.busy = true → s.status.done = false

/-- The invariant of the bus port (R42, R58): a frame is pending exactly in a waiting phase, and the port holds it, as
TX does, or its answer. -/
structure PortInv (s : State) : Prop where
  waits : s.pending = true ↔ waiting s.phase
  port : s.pending = true ↔ s.bus ≠ .quiet
  frame : ∀ b0 b1 b2, s.bus = .issued b0 b1 b2 → isChannelSelect b0 b1 b2 = true ∧ s.tx = pack24 b0 b1 b2

/-- What a running SAMPLE has checked at its start (R173). -/
structure SamplingInv (s : State) : Prop where
  op : opField s.cmd = 8
  chan : chanField s.cmd ≤ 7
  scale : 0 ≤ i32 s.scaleMax
  time : s.t0 ≤ s.env.clock

theorem blockInv_iff (s : State) :
    BlockInv s ↔ DataInv s ∧ BusyInv s ∧ PortInv s ∧ (sampling s.phase → SamplingInv s) := by
  constructor
  · rintro ⟨⟨-, hmax, hmin, htx, hp2p, herr, hbusy, hpending⟩, ⟨hdone, hwait, hport, hframe, hop, hchan, hscale, htime,
      hcounted⟩⟩
    exact ⟨⟨htx, ⟨hmax, hmin, hcounted⟩, hp2p, herr⟩, ⟨hbusy, hdone⟩, ⟨⟨hpending, hwait⟩, hport, hframe⟩,
      fun h => ⟨hop h, hchan h, hscale h, htime h⟩⟩
  · rintro ⟨⟨htx, ⟨hmax, hmin, hcounted⟩, hp2p, herr⟩, ⟨hbusy, hdone⟩, ⟨hwaits, hport, hframe⟩, hsample⟩
    exact ⟨⟨Nat.le_of_lt_succ s.raw.isLt, hmax, hmin, htx, hp2p, herr, hbusy, hwaits.mp⟩,
      ⟨hdone, hwaits.mpr, hport, hframe, fun h => (hsample h).op, fun h => (hsample h).chan, fun h => (hsample h).scale,
        fun h => (hsample h).time, hcounted⟩⟩

theorem BlockInv.data {s : State} (h : BlockInv s) : DataInv s := ((blockInv_iff s).mp h).1

theorem BlockInv.busy {s : State} (h : BlockInv s) : BusyInv s := ((blockInv_iff s).mp h).2.1

theorem BlockInv.port {s : State} (h : BlockInv s) : PortInv s := ((blockInv_iff s).mp h).2.2.1

theorem BlockInv.sampling {s : State} (h : BlockInv s) (hp : Machine.sampling s.phase) : SamplingInv s :=
  ((blockInv_iff s).mp h).2.2.2 hp

/-! ## Values that are in range -/

theorem txInv_frameWord (ch : Fin 8) : TxInv (frameWord ch) := .inr ⟨ch, frameWord_eq ch⟩

theorem trackerInv_trackClear : TrackerInv trackClear := ⟨by decide, by decide, by decide⟩

theorem p2pInv_zero : P2pInv 0 := ⟨by decide, by decide⟩

theorem TrackerInv.push {t : Tracker} (h : TrackerInv t) (m : TrkMode) (v : BitVec 10) :
    TrackerInv (trackPush m v t) := by
  obtain ⟨hmax, hmin, hleft⟩ := trackPush_bounds m v t h.readMax h.readMin
  exact ⟨hmax, hmin, fun _ => hleft⟩

theorem TrackerInv.peakP2p {t : Tracker} (h : TrackerInv t) : P2pInv (peakP2p t) :=
  peakP2p_bounds t h.readMax h.readMin h.counted

/-- The block never raises the host's code 8 (R209), so ERR stays within R42. -/
theorem errCode_toNat_le {e : Err} (he : e ≠ .noDevice) : (errCode e).toNat ≤ 7 := by
  cases e
  case noDevice => exact absurd rfl he
  all_goals decide

/-! ## States that meet the invariant -/

/-- Outside a waiting phase the bus port is quiet. -/
theorem PortInv.quiet {s : State} (h : PortInv s) (hp : ¬ waiting s.phase) : s.pending = false ∧ s.bus = .quiet := by
  have hpending : ¬ s.pending = true := fun hpending => hp (h.waits.mp hpending)
  exact ⟨Bool.eq_false_of_not_eq_true hpending, not_not.mp fun hbus => hpending (h.port.mpr hbus)⟩

theorem portInv_of_quiet {s : State} (hpending : s.pending = false) (hbus : s.bus = .quiet) (hp : ¬ waiting s.phase) :
    PortInv s where
  waits := by simp [hpending, hp]
  port := by simp [hpending, hbus]
  frame := by simp [hbus]

/-- What stands outside the block is no matter of the invariant, but that the clock does not fall. -/
theorem BlockInv.with_env {s : State} (h : BlockInv s) {env : Env} (hclock : s.env.clock ≤ env.clock) :
    BlockInv { s with env := env } := by
  obtain ⟨⟨htx, htr, hp2p, herr⟩, ⟨hbusy, hdone⟩, ⟨hwaits, hport, hframe⟩, hsample⟩ := (blockInv_iff s).mp h
  exact (blockInv_iff _).mpr ⟨⟨htx, htr, hp2p, herr⟩, ⟨hbusy, hdone⟩, ⟨hwaits, hport, hframe⟩,
    fun hp => ⟨(hsample hp).op, (hsample hp).chan, (hsample hp).scale, (hsample hp).time.trans hclock⟩⟩

theorem BlockInv.with_dropped {s : State} (h : BlockInv s) (d : Bool) :
    BlockInv { s with status := { s.status with dropped := d } } := by
  obtain ⟨⟨htx, htr, hp2p, herr⟩, ⟨hbusy, hdone⟩, ⟨hwaits, hport, hframe⟩, hsample⟩ := (blockInv_iff s).mp h
  exact (blockInv_iff _).mpr ⟨⟨htx, htr, hp2p, herr⟩, ⟨hbusy, hdone⟩, ⟨hwaits, hport, hframe⟩,
    fun hp => ⟨(hsample hp).op, (hsample hp).chan, (hsample hp).scale, (hsample hp).time⟩⟩

/-- A command that has ended (R171): the data in range and the port quiet are enough. -/
theorem blockInv_complete {e : Err} (he : e ≠ .noDevice) {u : State} (hdata : DataInv u) (hpending : u.pending = false)
    (hbus : u.bus = .quiet) : BlockInv (complete e u) :=
  (blockInv_iff _).mpr ⟨⟨hdata.tx, hdata.tracker, hdata.p2p, errCode_toNat_le he⟩, ⟨by simp, by simp⟩,
    portInv_of_quiet hpending hbus (by simp [waiting]), by simp [Machine.sampling]⟩

/-- A frame that has been issued (R58), from a command that runs. -/
theorem blockInv_withFrame {s : State} (h : BlockInv s) (hp : s.phase ≠ .idle) (ch : Fin 8) {wait : Phase}
    (hwait : waiting wait) (hsample : Machine.sampling wait → SamplingInv s) : BlockInv (withFrame ch wait s) := by
  have hdata := h.data
  have hbusy : s.status.busy = true := h.busy.busy.mpr hp
  have hidle : wait ≠ .idle := by obtain rfl | rfl := hwait <;> decide
  refine (blockInv_iff _).mpr ⟨⟨txInv_frameWord ch, hdata.tracker, hdata.p2p, hdata.err⟩,
    ⟨iff_of_true hbusy hidle, h.busy.done⟩, ⟨iff_of_true rfl hwait, iff_of_true rfl nofun, ?_⟩,
    fun hs => ⟨(hsample hs).op, (hsample hs).chan, (hsample hs).scale, (hsample hs).time⟩⟩
  rintro b0 b1 b2 ⟨⟩
  exact ⟨isChannelSelect_frame ch, rfl⟩

/-- A running SAMPLE before a window check: the data in range and the port quiet, with what its start has checked. -/
theorem blockInv_sampleCheck {s : State} (hdata : DataInv s) (hbusy : s.status.busy = true)
    (hdone : s.status.done = false) (hpending : s.pending = false) (hbus : s.bus = .quiet) (hp : s.phase = .sampleCheck)
    (hsample : SamplingInv s) : BlockInv s :=
  (blockInv_iff s).mpr ⟨hdata, ⟨iff_of_true hbusy (by simp [hp]), fun _ => hdone⟩,
    portInv_of_quiet hpending hbus (by simp [hp, waiting]), fun _ => hsample⟩

/-- The answer is a next state that meets the invariant. -/
def StepsWithin (r : Result) : Prop := ∃ t, r = .next t ∧ BlockInv t

/-! ## The execute step (R181) -/

/-- A command that ends, in a state `u` with the port of a state that meets the invariant outside the waiting phases. -/
theorem stepsWithin_complete {e : Err} (he : e ≠ .noDevice) {s u : State} (h : BlockInv s) (hp : ¬ waiting s.phase)
    (hdata : DataInv u) (hport : u.pending = s.pending ∧ u.bus = s.bus) : StepsWithin (.next (complete e u)) := by
  obtain ⟨hpending, hbus⟩ := h.port.quiet hp
  exact ⟨_, rfl, blockInv_complete he hdata (hport.1.trans hpending) (hport.2.trans hbus)⟩

theorem stepsWithin_read {s : State} (h : BlockInv s) (hp : s.phase = .exec) (ch : Nat) :
    StepsWithin (exec (.read ch) s) := by
  have hwait : ¬ waiting s.phase := by simp [hp, waiting]
  by_cases hch : ch ≤ 7
  · let c : Fin 8 := ⟨ch, Nat.lt_succ_of_le hch⟩
    exact ⟨_, exec_read_of_channel (h.port.quiet hwait).1 c,
      blockInv_withFrame h (by simp [hp]) c (.inl rfl) (by simp [Machine.sampling])⟩
  · rw [exec_of_invalid_channel (i := .read ch) (not_le.mp hch) (by simp)]
    exact stepsWithin_complete (by decide) h hwait h.data ⟨rfl, rfl⟩

theorem stepsWithin_sample {s : State} (h : BlockInv s) (hp : s.phase = .exec) {ch : Nat}
    (hcmd : decodeCmd s.cmd = .sample ch) : StepsWithin (exec (.sample ch) s) := by
  have hwait : ¬ waiting s.phase := by simp [hp, waiting]
  have hdata := h.data
  by_cases hch : ch ≤ 7
  · by_cases hscale : i32 s.scaleMax < 0
    · rw [exec_sample_of_neg hch hscale]
      exact stepsWithin_complete (by decide) h hwait hdata ⟨rfl, rfl⟩
    · obtain ⟨hop, hchan⟩ := fields_of_decodeCmd_eq_sample hcmd
      obtain ⟨hpending, hbus⟩ := h.port.quiet hwait
      have hbusy : s.status.busy = true := h.busy.busy.mpr (by simp [hp])
      exact ⟨_, exec_sample_of_nonneg hch (not_lt.mp hscale),
        blockInv_sampleCheck ⟨hdata.tx, trackerInv_trackClear, hdata.p2p, hdata.err⟩ hbusy (h.busy.done hbusy) hpending
          hbus rfl ⟨hop, hchan.trans_le hch, not_lt.mp hscale, Nat.le_refl _⟩⟩
  · rw [exec_of_invalid_channel (i := .sample ch) (not_le.mp hch) (by simp)]
    exact stepsWithin_complete (by decide) h hwait hdata ⟨rfl, rfl⟩

/-- Every row of the command set, in EXEC: it ends, it issues a frame, or it starts a window. -/
theorem stepsWithin_exec {s : State} (h : BlockInv s) (hp : s.phase = .exec) :
    StepsWithin (exec (decodeCmd s.cmd) s) := by
  have hwait : ¬ waiting s.phase := by simp [hp, waiting]
  have hdata := h.data
  have hformat := decodeCmd_format s.cmd
  cases hrow : decodeCmd s.cmd with
  | nop => exact stepsWithin_complete (by decide) h hwait hdata ⟨rfl, rfl⟩
  | decode =>
    exact stepsWithin_complete (by decide) h hwait ⟨hdata.tx, hdata.tracker, hdata.p2p, hdata.err⟩ ⟨rfl, rfl⟩
  | frame ch =>
    by_cases hch : ch ≤ 7
    · rw [exec_frame_of_le hch]
      exact stepsWithin_complete (by decide) h hwait ⟨txInv_frameWord _, hdata.tracker, hdata.p2p, hdata.err⟩ ⟨rfl, rfl⟩
    · rw [exec_of_invalid_channel (i := .frame ch) (not_le.mp hch) (by simp)]
      exact stepsWithin_complete (by decide) h hwait hdata ⟨rfl, rfl⟩
  | read ch => exact stepsWithin_read h hp ch
  | sample ch => exact stepsWithin_sample h hp hrow
  | trackClear =>
    exact stepsWithin_complete (by decide) h hwait ⟨hdata.tx, trackerInv_trackClear, hdata.p2p, hdata.err⟩ ⟨rfl, rfl⟩
  | trackPush v =>
    by_cases hv : v ≤ 1023
    · rw [exec_trackPush_of_le hv]
      exact stepsWithin_complete (by decide) h hwait ⟨hdata.tx, hdata.tracker.push _ _, hdata.p2p, hdata.err⟩ ⟨rfl, rfl⟩
    · rw [exec_trackPush_of_gt (not_le.mp hv)]
      exact stepsWithin_complete (by decide) h hwait hdata ⟨rfl, rfl⟩
  | peak =>
    exact stepsWithin_complete (by decide) h hwait ⟨hdata.tx, hdata.tracker, hdata.tracker.peakP2p, hdata.err⟩
      ⟨rfl, rfl⟩
  | rescale =>
    by_cases hzero : s.rs.srcHi = s.rs.srcLo
    · rw [exec_rescale_of_srcHi_eq hzero]
      exact stepsWithin_complete (by decide) h hwait hdata ⟨rfl, rfl⟩
    · rw [exec_rescale_of_srcHi_ne hzero]
      split
      · exact stepsWithin_complete (by decide) h hwait ⟨hdata.tx, hdata.tracker, hdata.p2p, hdata.err⟩ ⟨rfl, rfl⟩
      · exact stepsWithin_complete (by decide) h hwait hdata ⟨rfl, rfl⟩
  | reserved9 | reservedA | reservedB | reservedC | reservedD | reservedE | reservedF =>
    exact stepsWithin_complete (e := .illegalOp) (by decide) h hwait hdata ⟨rfl, rfl⟩
  | adcSeCh0 | adcSeCh1 | adcSeCh2 | adcSeCh3 | adcSeCh4 | adcSeCh5 | adcSeCh6 | adcSeCh7 | adcResult b0 b1 b2 =>
    rw [hrow] at hformat
    cases hformat

/-! ## The other steps of the block -/

/-- The window check of a running SAMPLE, whose channel its start has validated (R174, R177). -/
theorem stepsWithin_windowCheck {s : State} (h : BlockInv s) (hp : s.phase = .sampleCheck) :
    StepsWithin (windowCheck s) := by
  have hwait : ¬ waiting s.phase := by simp [hp, waiting]
  have hsample := h.sampling (.inl hp)
  cases hwindow : windowOpen s with
  | true =>
    let c : Fin 8 := ⟨chanField s.cmd, Nat.lt_succ_of_le hsample.chan⟩
    exact ⟨_, windowCheck_of_open (ch := c) hwindow (h.port.quiet hwait).1 rfl,
      blockInv_withFrame h (by simp [hp]) c (.inr rfl) fun _ => hsample⟩
  | false =>
    have hdata := h.data
    rw [windowCheck_of_closed hwindow, sampleFinish_eq]
    exact stepsWithin_complete (by decide) h hwait ⟨hdata.tx, hdata.tracker, hdata.tracker.peakP2p, hdata.err⟩
      ⟨rfl, rfl⟩

/-- The consumption of an OK response, by READ and by SAMPLE (R106, R175). -/
theorem stepsWithin_response {s : State} (h : BlockInv s) (hp : waiting s.phase) (b0 b1 b2 : Byte) :
    StepsWithin (exec (.adcResult b0 b1 b2) s) := by
  have hdata := h.data
  obtain hp | hp := hp
  · rw [exec_adcResult_of_readWait hp]
    exact ⟨_, rfl, blockInv_complete (by decide) ⟨hdata.tx, hdata.tracker, hdata.p2p, hdata.err⟩ rfl rfl⟩
  · have hsample := h.sampling (.inr hp)
    have hbusy : s.status.busy = true := h.busy.busy.mpr (by simp [hp])
    rw [exec_adcResult_of_sampleWait hp]
    exact ⟨_, rfl, blockInv_sampleCheck ⟨hdata.tx, hdata.tracker.push _ _, hdata.p2p, hdata.err⟩ hbusy
      (h.busy.done hbusy) rfl rfl rfl ⟨hsample.op, hsample.chan, hsample.scale, hsample.time⟩⟩

/-- A waiting block: an OK response, a FAIL (R107, R176), or no answer yet. -/
theorem stepsWithin_wait {s : State} (h : BlockInv s) (hp : waiting s.phase) : StepsWithin (blockTurn s) := by
  have hdata := h.data
  cases hbus : s.bus with
  | answered a =>
    cases a with
    | ok b0 b1 b2 =>
      rw [blockTurn_of_ok hp hbus]
      exact stepsWithin_response h hp b0 b1 b2
    | fail =>
      rw [blockTurn_of_fail hp hbus]
      exact ⟨_, rfl, blockInv_complete (by decide) ⟨hdata.tx, hdata.tracker, hdata.p2p, hdata.err⟩ rfl rfl⟩
  | quiet | issued b0 b1 b2 => exact ⟨s, blockTurn_of_not_answered hp (by simp [hbus]), h⟩

theorem stepsWithin_block {s : State} (h : BlockInv s) : StepsWithin (blockTurn s) := by
  cases hp : s.phase with
  | idle => exact ⟨s, blockTurn_of_idle hp, h⟩
  | exec =>
    rw [blockTurn_of_exec hp]
    exact stepsWithin_exec h hp
  | sampleCheck =>
    rw [blockTurn_of_sampleCheck hp]
    exact stepsWithin_windowCheck h hp
  | readWait => exact stepsWithin_wait h (.inl hp)
  | sampleWait => exact stepsWithin_wait h (.inr hp)

/-! ## The other agents -/

/-- The bus agent has no step where no frame is to be answered (log 14). -/
theorem busTurn_of_not_issued {s : State} (h : ∀ b0 b1 b2, s.bus ≠ .issued b0 b1 b2) : busTurn s = .next s := by
  rw [busTurn]
  split
  case h_1 p hp =>
    obtain ⟨-, b0, b1, b2, hbus, -⟩ := fetchFrame_eq_some hp
    exact absurd hbus (h b0 b1 b2)
  case h_2 => rfl

/-- The bus agent's answer to a channel-select frame (R108). -/
theorem busTurn_of_channelSelect {s : State} {b0 b1 b2 : Byte} (hpending : s.pending = true)
    (hbus : s.bus = .issued b0 b1 b2) (hframe : isChannelSelect b0 b1 b2 = true) :
    ∃ ch, busTurn s = .next (withAnswer ch s) := by
  rw [busTurn_of_issued hpending hbus]
  obtain ⟨ch, hrun⟩ | ⟨hnot, -⟩ := runWord_outbound b0 b1 b2 s
  · exact ⟨ch, hrun.trans (answerFrame_of_issued hpending hbus)⟩
  · exact absurd (hframe.symm.trans hnot) (by decide)

/-- An answered port meets the invariant as the issued frame did. -/
theorem blockInv_withAnswer {s : State} (h : BlockInv s) (hpending : s.pending = true) (ch : Fin 8) :
    BlockInv (withAnswer ch s) := by
  obtain ⟨⟨htx, htr, hp2p, herr⟩, ⟨hbusy, hdone⟩, ⟨hwaits, -, -⟩, hsample⟩ := (blockInv_iff s).mp h
  exact (blockInv_iff _).mpr ⟨⟨htx, htr, hp2p, herr⟩, ⟨hbusy, hdone⟩, ⟨hwaits, iff_of_true hpending nofun, nofun⟩,
    fun hp => ⟨(hsample hp).op, (hsample hp).chan, (hsample hp).scale, (hsample hp).time⟩⟩

theorem stepsWithin_bus {s : State} (h : BlockInv s) : StepsWithin (busTurn s) := by
  cases hbus : s.bus with
  | quiet | answered a => exact ⟨s, busTurn_of_not_issued (by simp [hbus]), h⟩
  | issued b0 b1 b2 =>
    have hpending : s.pending = true := h.port.port.mpr (by simp [hbus])
    obtain ⟨hframe, -⟩ := h.port.frame b0 b1 b2 hbus
    obtain ⟨ch, hturn⟩ := busTurn_of_channelSelect hpending hbus hframe
    exact ⟨_, hturn, blockInv_withAnswer h hpending ch⟩

/-- A store while idle (R52): none of the registers it can write is one of the invariant's, and acceptance raises BUSY
with the phase (R170). -/
theorem blockInv_storeReg {s : State} (h : BlockInv s) (hidle : s.status.busy = false) (r : Reg) (v : Word) :
    BlockInv (storeReg r v s) := by
  obtain ⟨⟨htx, htr, hp2p, herr⟩, ⟨hbusy, hdone⟩, hport, -⟩ := (blockInv_iff s).mp h
  have hp : s.phase = .idle := by
    by_contra hne
    exact absurd ((hbusy.mpr hne).symm.trans hidle) (by decide)
  obtain ⟨hpending, hbus⟩ := hport.quiet (by simp [hp, waiting])
  rw [blockInv_iff]
  cases r with
  | cmd =>
    exact ⟨⟨htx, htr, hp2p, herr⟩, ⟨iff_of_true rfl nofun, fun _ => rfl⟩,
      portInv_of_quiet hpending hbus (by simp [storeReg, waiting]), by simp [storeReg, Machine.sampling]⟩
  | _ =>
    exact ⟨⟨htx, htr, hp2p, herr⟩, ⟨hbusy, hdone⟩,
      portInv_of_quiet hpending hbus (by simp [storeReg, hp, waiting]), by simp [storeReg, hp, Machine.sampling]⟩

theorem blockInv_hostTurn {s : State} (h : BlockInv s) : BlockInv (hostTurn s) := by
  obtain ⟨env, hclock, -, -, -, ⟨d, heq, -⟩ | ⟨hidle, r, v, -, heq⟩⟩ := hostTurn_cases s
  · rw [heq]
    exact (h.with_env hclock.ge).with_dropped d
  · rw [heq]
    exact blockInv_storeReg (h.with_env hclock.ge) hidle r v

/-- Settles O52: nothing runs at reset, and the data are at values in range. -/
theorem resetMeetsTheRangeAndControlRules : Obligations.ResetMeetsTheRangeAndControlRules := by
  refine (blockInv_iff _).mpr ⟨⟨.inl rfl, trackerInv_trackClear, p2pInv_zero, by decide⟩, ⟨by decide, by decide⟩,
    portInv_of_quiet rfl rfl ?_, ?_⟩
  · simp [State.reset, waiting]
  · simp [State.reset, Machine.sampling]

/-! ## Every step (R42, R200) -/

/-- Each agent's turn, from a state that meets the invariant. -/
theorem stepsWithin_turn {s : State} (h : BlockInv s) (a : Agent) : StepsWithin (turn a s) := by
  cases a with
  | host => exact ⟨_, rfl, blockInv_hostTurn h⟩
  | block => exact stepsWithin_block h
  | bus => exact stepsWithin_bus h
  | timebase => exact ⟨_, rfl, h.with_env (Nat.le_add_right _ _)⟩
  | platform => exact ⟨_, rfl, resetMeetsTheRangeAndControlRules.with_env (Nat.zero_le _)⟩

theorem stepsWithin_step {s : State} (h : BlockInv s) : StepsWithin (step s) :=
  stepsWithin_turn (h.with_env (env := (afterTurn s).env) (Nat.le_refl _)) (nextAgent s)

/-- Settles O53. -/
theorem everyStepKeepsTheRangeAndControlRules : Obligations.EveryStepKeepsTheRangeAndControlRules := by
  intro s t h hstep
  obtain ⟨u, hu, hinv⟩ := stepsWithin_step h
  cases hu.symm.trans hstep
  exact hinv

/-- Settles O54. -/
theorem noStepStopsTheMachine : Obligations.NoStepStopsTheMachine := by
  intro s h
  obtain ⟨t, ht, -⟩ := stepsWithin_step h
  exact ⟨t, ht⟩

/-! ## The end of a window (R212) -/

/-- A running SAMPLE whose window is over. -/
structure WindowOver (s : State) : Prop where
  inv : BlockInv s
  phase : Machine.sampling s.phase
  closed : u32 s.windowMs + s.t0 ≤ s.env.clock

/-- The turns a SAMPLE whose window is over still needs: the bus agent's while a frame is unanswered, the block's to
consume the answer, and the block's last check. -/
def turnsToEnd (s : State) : List Agent :=
  match s.phase, s.bus with
  | .sampleWait, .issued _ _ _ => [.bus, .block, .block]
  | .sampleWait, _ => [.block, .block]
  | _, _ => [.block]

theorem turnsToEnd_of_sampleCheck {s : State} (hp : s.phase = .sampleCheck) : turnsToEnd s = [.block] := by
  rw [turnsToEnd, hp]

theorem turnsToEnd_of_issued {s : State} (hp : s.phase = .sampleWait) {b0 b1 b2 : Byte}
    (hbus : s.bus = .issued b0 b1 b2) : turnsToEnd s = [.bus, .block, .block] := by
  rw [turnsToEnd, hp, hbus]

theorem turnsToEnd_of_answered {s : State} (hp : s.phase = .sampleWait) {a : BusAnswer} (hbus : s.bus = .answered a) :
    turnsToEnd s = [.block, .block] := by
  rw [turnsToEnd, hp, hbus]

theorem turnsToEnd_congr {s t : State} (hp : t.phase = s.phase) (hbus : t.bus = s.bus) :
    turnsToEnd t = turnsToEnd s := by
  rw [turnsToEnd, turnsToEnd, hp, hbus]

/-- Without a frame to answer the block's turn is needed first. -/
theorem head?_turnsToEnd_of_not_issued {s : State} (h : ∀ b0 b1 b2, s.bus ≠ .issued b0 b1 b2) :
    (turnsToEnd s).head? = some .block := by
  rw [turnsToEnd]
  split
  case h_1 b0 b1 b2 _ hbus => exact absurd hbus (h b0 b1 b2)
  all_goals rfl

/-- No stage needs more than a turn of the bus and two of the block. -/
theorem turnsToEnd_sublist (s : State) : (turnsToEnd s).Sublist [.bus, .block, .block] := by
  rw [turnsToEnd]
  split <;> decide

theorem turnsToEnd_ne_nil (s : State) : turnsToEnd s ≠ [] := by
  rw [turnsToEnd]
  split <;> decide

/-- What a turn makes of a SAMPLE whose window is over: it has ended, or it needs one turn less, or the turn was not the
one it needs first and it needs the same. -/
def TowardEnd (a : Agent) (s t : State) : Prop :=
  (t.phase = .idle ∧ t.status.busy = false) ∨
    WindowOver t ∧ (turnsToEnd s = a :: turnsToEnd t ∨ turnsToEnd t = turnsToEnd s ∧ (turnsToEnd s).head? ≠ some a)

/-- Neither the host nor the timebase is needed. -/
theorem towardEnd_of_idle_agent {a : Agent} (ha : a ≠ .bus ∧ a ≠ .block) {s t : State} (ht : WindowOver t)
    (hp : t.phase = s.phase) (hbus : t.bus = s.bus) : TowardEnd a s t := by
  obtain ⟨hnotBus, hnotBlock⟩ := ha
  refine .inr ⟨ht, .inr ⟨turnsToEnd_congr hp hbus, ?_⟩⟩
  rw [turnsToEnd]
  split <;> simp [hnotBus.symm, hnotBlock.symm]

/-- A turn that changes nothing was not needed first. -/
theorem towardEnd_self {a : Agent} {s : State} (hs : WindowOver s) (ha : (turnsToEnd s).head? ≠ some a) :
    TowardEnd a s s :=
  .inr ⟨hs, .inr ⟨rfl, ha⟩⟩

/-- The block's turn: the last check finishes, an answer is consumed, and an unanswered frame is waited for. -/
theorem blockTurn_towardEnd {s : State} (hs : WindowOver s) : ∃ t, blockTurn s = .next t ∧ TowardEnd .block s t := by
  have hinv := hs.inv
  have hover := hs.closed
  obtain hp | hp := hs.phase
  case inl =>
    have hclosed : windowOpen s = false := by
      rw [windowOpen_eq_false_iff]
      omega
    exact ⟨_, blockTurn_of_window_closed hp hclosed, .inl ⟨rfl, rfl⟩⟩
  case inr =>
    have hwait : waiting s.phase := .inr hp
    cases hbus : s.bus with
    | quiet => exact absurd hbus (hinv.port.port.mp (hinv.port.waits.mpr hwait))
    | issued b0 b1 b2 =>
      refine ⟨s, blockTurn_of_not_answered hwait (by simp [hbus]), towardEnd_self hs ?_⟩
      simp [turnsToEnd_of_issued hp hbus]
    | answered a =>
      cases a with
      | ok b0 b1 b2 =>
        have hturn := (blockTurn_of_ok hwait hbus).trans (exec_adcResult_of_sampleWait hp b0 b1 b2)
        obtain ⟨t, ht, hinv'⟩ := stepsWithin_block hinv
        cases hturn.symm.trans ht
        refine ⟨_, hturn, .inr ⟨⟨hinv', .inl rfl, hover⟩, .inl ?_⟩⟩
        rw [turnsToEnd_of_answered hp hbus, turnsToEnd_of_sampleCheck rfl]
      | fail => exact ⟨_, blockTurn_of_fail hwait hbus, .inl ⟨rfl, rfl⟩⟩

/-- The bus agent's turn: it answers the frame, if there is one to answer. -/
theorem busTurn_towardEnd {s : State} (hs : WindowOver s) : ∃ t, busTurn s = .next t ∧ TowardEnd .bus s t := by
  have hinv := hs.inv
  cases hbus : s.bus with
  | quiet | answered a =>
    have hnone : ∀ b0 b1 b2, s.bus ≠ .issued b0 b1 b2 := by simp [hbus]
    exact ⟨s, busTurn_of_not_issued hnone, towardEnd_self hs (by simp [head?_turnsToEnd_of_not_issued hnone])⟩
  | issued b0 b1 b2 =>
    have hpending : s.pending = true := hinv.port.port.mpr (by simp [hbus])
    have hp : s.phase = .sampleWait := by
      obtain hp | hp := hs.phase
      · exact absurd (hinv.port.waits.mp hpending) (by simp [hp, waiting])
      · exact hp
    obtain ⟨ch, hturn⟩ := busTurn_of_channelSelect hpending hbus (hinv.port.frame b0 b1 b2 hbus).1
    refine ⟨_, hturn, .inr ⟨⟨blockInv_withAnswer hinv hpending ch, hs.phase, hs.closed⟩, .inl ?_⟩⟩
    rw [turnsToEnd_of_issued hp hbus, turnsToEnd_of_answered (s := withAnswer ch s) hp rfl]

/-- Every turn but the platform's. -/
theorem turn_towardEnd {a : Agent} (ha : a ≠ .platform) {s : State} (hs : WindowOver s) :
    ∃ t, turn a s = .next t ∧ TowardEnd a s t := by
  cases a with
  | platform => exact absurd rfl ha
  | block => exact blockTurn_towardEnd hs
  | bus => exact busTurn_towardEnd hs
  | host =>
    have hbusy : s.status.busy = true := hs.inv.busy.busy.mpr (by obtain hp | hp := hs.phase <;> simp [hp])
    have hinv := blockInv_hostTurn hs.inv
    obtain ⟨env, d, hclock, -, heq⟩ := hostTurn_of_busy hbusy
    rw [heq] at hinv
    exact ⟨_, congrArg Host.Outcome.next heq,
      towardEnd_of_idle_agent (by decide) ⟨hinv, hs.phase, hs.closed.trans hclock.ge⟩ rfl rfl⟩
  | timebase =>
    have hclock : s.env.clock ≤ (timebaseTurn s).env.clock := Nat.le_add_right _ _
    exact ⟨_, rfl, towardEnd_of_idle_agent (by decide) ⟨hs.inv.with_env hclock, hs.phase, hs.closed.trans hclock⟩ rfl
      rfl⟩

/-- A schedule that holds the turns still needed, in their order and with others between, brings the end. -/
theorem exists_idle_of_turnsToEnd_sublist {turns rest : List Agent} {s : State} (hs : WindowOver s)
    (hsched : s.env.schedule = turns ++ rest) (hplatform : Agent.platform ∉ turns)
    (hsub : (turnsToEnd s).Sublist turns) :
    ∃ k ≤ turns.length, ∃ t, run k s = .next t ∧ t.phase = .idle ∧ t.status.busy = false := by
  induction turns generalizing s with
  | nil => exact absurd (List.sublist_nil.mp hsub) (turnsToEnd_ne_nil s)
  | cons a turns ih =>
    rw [List.mem_cons, not_or] at hplatform
    obtain ⟨ha, hturns⟩ := hplatform
    have hs' : WindowOver (setSchedule (turns ++ rest) s) := ⟨hs.inv.with_env (Nat.le_refl _), hs.phase, hs.closed⟩
    obtain ⟨t, hturn, hend | ⟨ht, hneeded⟩⟩ := turn_towardEnd (Ne.symm ha) hs'
    · exact ⟨1, by simp, t, run_succ 0 ((step_of_schedule_cons hsched).trans hturn), hend⟩
    · have hsub' : (turnsToEnd t).Sublist turns := by
        have hsame : turnsToEnd (setSchedule (turns ++ rest) s) = turnsToEnd s := turnsToEnd_congr rfl rfl
        rw [hsame] at hneeded
        obtain hless | ⟨hkept, hhead⟩ := hneeded
        · rwa [hless, List.cons_sublist_cons] at hsub
        · obtain hskip | ⟨l, hl, -⟩ := List.sublist_cons_iff.mp hsub
          · rwa [hkept]
          · exact absurd (congrArg List.head? hl) hhead
      obtain ⟨k, hk, u, hrun, hidle⟩ := ih ht (turn_schedule hturn) hturns hsub'
      exact ⟨k + 1, Nat.succ_le_succ hk, u, (run_succ k ((step_of_schedule_cons hsched).trans hturn)).trans hrun, hidle⟩

/-- Settles O41: the turns given are all that any stage needs. -/
theorem sampleEndsAfterItsWindow : Obligations.SampleEndsAfterItsWindow :=
  fun s _ _ hinv hphase hover hsched hplatform hsub =>
    exists_idle_of_turnsToEnd_sublist ⟨hinv, hphase, hover⟩ hsched hplatform ((turnsToEnd_sublist s).trans hsub)

end Sys2Proof.Machine

/-!
READ and SAMPLE are stateless (R40): two states that agree on the inputs of the running command step alike, agree again,
and report alike at completion.
-/

namespace Sys2Proof.Machine

/-! ## What keeps two states in agreement -/

theorem SameInputs.afterTurn {s s' : State} (h : SameInputs s s') : SameInputs (afterTurn s) (afterTurn s') :=
  ⟨h.trkMode, h.cmd, h.windowMs, h.scaleMax, h.phase, h.pending, h.bus, by rw [afterTurn_env, afterTurn_env, h.env],
    h.t0, h.tracker⟩

theorem SameInputs.timebaseTurn {s s' : State} (h : SameInputs s s') : SameInputs (timebaseTurn s) (timebaseTurn s') :=
  ⟨h.trkMode, h.cmd, h.windowMs, h.scaleMax, h.phase, h.pending, h.bus,
    by rw [timebaseTurn_env, timebaseTurn_env, h.env], h.t0, h.tracker⟩

theorem SameInputs.withAnswer {s s' : State} (h : SameInputs s s') (ch : Fin 8) :
    SameInputs (withAnswer ch s) (withAnswer ch s') :=
  ⟨h.trkMode, h.cmd, h.windowMs, h.scaleMax, h.phase, h.pending, by simp only [Machine.withAnswer, h.env],
    by simp only [Machine.withAnswer, h.env], h.t0, h.tracker⟩

/-- A completed command has no window left to agree on. -/
theorem SameInputs.complete {s s' : State} (h : SameInputs s s') (e : Err) :
    SameInputs (complete e s) (complete e s') :=
  ⟨h.trkMode, h.cmd, h.windowMs, h.scaleMax, rfl, h.pending, h.bus, h.env, by simp [sampling], by simp [sampling]⟩

theorem SameInputs.consume {s s' : State} (h : SameInputs s s') : SameInputs (consume s) (consume s') :=
  ⟨h.trkMode, h.cmd, h.windowMs, h.scaleMax, h.phase, rfl, rfl, h.env, h.t0, h.tracker⟩

theorem SameInputs.receive {s s' : State} (h : SameInputs s s') (b0 b1 b2 : Byte) :
    SameInputs (receive b0 b1 b2 s) (receive b0 b1 b2 s') :=
  ⟨h.trkMode, h.cmd, h.windowMs, h.scaleMax, h.phase, rfl, rfl, h.env, h.t0, h.tracker⟩

/-- A frame is issued into SAMPLE's wait only from its window check. -/
theorem SameInputs.withFrame {s s' : State} (h : SameInputs s s') (ch : Fin 8) {wait : Phase}
    (hwait : sampling wait → sampling s.phase) : SameInputs (withFrame ch wait s) (withFrame ch wait s') :=
  ⟨h.trkMode, h.cmd, h.windowMs, h.scaleMax, rfl, rfl, rfl, h.env, fun hp => h.t0 (hwait hp),
    fun hp => h.tracker (hwait hp)⟩

/-- The window's T0 and tracker are the same from its start on, whatever was left of another window (R173). -/
theorem SameInputs.startWindow {s s' : State} (h : SameInputs s s') : SameInputs (startWindow s) (startWindow s') :=
  ⟨h.trkMode, h.cmd, h.windowMs, h.scaleMax, rfl, h.pending, h.bus, h.env, fun _ => congrArg Env.clock h.env,
    fun _ => rfl⟩

/-- A push reads the mode and the tracker, which agree in a window (R175). -/
theorem SameInputs.pushResponse {s s' : State} (h : SameInputs s s') (hp : sampling s.phase) (r : SampleRead) :
    SameInputs (pushResponse r s) (pushResponse r s') :=
  ⟨h.trkMode, h.cmd, h.windowMs, h.scaleMax, rfl, rfl, rfl, h.env, fun _ => h.t0 hp,
    fun _ => congrArg₂ (trackPush · (decodeSample r.rx0 r.rx1 r.rx2) ·) h.trkMode (h.tracker hp)⟩

theorem SameInputs.sampleFinish {s s' : State} (h : SameInputs s s') : SameInputs (sampleFinish s) (sampleFinish s') :=
  ⟨h.trkMode, h.cmd, h.windowMs, h.scaleMax, rfl, h.pending, h.bus, h.env, by simp [sampling], by simp [sampling]⟩

theorem SameInputs.windowOpen {s s' : State} (h : SameInputs s s') (hp : sampling s.phase) :
    windowOpen s' = windowOpen s := by
  rw [Machine.windowOpen, Machine.windowOpen, elapsed, elapsed, h.env, h.t0 hp, h.windowMs]

/-! ## Steps that report alike -/

/-- Where the step completes the command, the code is the same, and without an error so are the results: RX and RAW of
READ, and what SAMPLE reports. -/
def SameReport (op : Nat) (t t' : State) : Prop :=
  t.phase = .idle → t'.status.err = t.status.err ∧ t'.status.busy = false ∧ t.status.busy = false ∧
    (t.status.err = 0 → op = 3 → t'.rx = t.rx ∧ t'.raw = t.raw) ∧
    (t.status.err = 0 → op = 8 → t'.p2p = t.p2p ∧ t'.result = t.result ∧ t'.tracker = t.tracker ∧
      t'.status.empty = t.status.empty ∧ t'.status.neg = t.status.neg)

/-- If the first answers a next state, so does the second, and the two agree and report alike. -/
def SameSteps (op : Nat) (r r' : Result) : Prop :=
  ∀ t, r = .next t → ∃ t', r' = .next t' ∧ SameInputs t t' ∧ SameReport op t t'

theorem sameSteps_next {op : Nat} {t t' : State} (h : SameInputs t t') (hreport : SameReport op t t') :
    SameSteps op (.next t) (.next t') := by
  rintro _ ⟨⟩
  exact ⟨t', rfl, h, hreport⟩

/-- A step that does not complete the command reports nothing. -/
theorem sameSteps_of_ne_idle {op : Nat} {t t' : State} (h : SameInputs t t') (hp : t.phase ≠ .idle) :
    SameSteps op (.next t) (.next t') :=
  sameSteps_next h fun hidle => absurd hidle hp

/-- An error reports its code alone (R204). -/
theorem sameSteps_error {op : Nat} {s s' : State} (h : SameInputs s s') {e : Err} (he : errCode e ≠ 0) :
    SameSteps op (.next (complete e s)) (.next (complete e s')) :=
  sameSteps_next (h.complete e) fun _ => ⟨rfl, rfl, rfl, fun hzero => absurd hzero he, fun hzero => absurd hzero he⟩

/-- Issuing a frame depends on PENDING, and a fault is no step. -/
theorem sameSteps_issueFrame {op : Nat} {s s' : State} (h : SameInputs s s') (ch : Fin 8) {wait : Phase}
    (hwait : sampling wait → sampling s.phase) (hidle : wait ≠ .idle) :
    SameSteps op (issueFrame ch wait s) (issueFrame ch wait s') := by
  intro t ht
  obtain ⟨hpending, rfl⟩ := issueFrame_cases ht
  exact ⟨_, issueFrame_eq_withFrame (h.pending.trans hpending) ch wait, h.withFrame ch hwait,
    fun hp => absurd hp hidle⟩

/-! ## The execute step -/

theorem decodeCmd_of_read {w : Word} (h : opField w = 3) : decodeCmd w = .read (chanField w) := by
  simp only [decodeCmd, h]

theorem decodeCmd_of_sample {w : Word} (h : opField w = 8) : decodeCmd w = .sample (chanField w) := by
  simp only [decodeCmd, h]

theorem sameSteps_read {op : Nat} {s s' : State} (h : SameInputs s s') (ch : Nat) :
    SameSteps op (exec (.read ch) s) (exec (.read ch) s') := by
  rw [exec, exec, execRead, execRead]
  cases toChannel ch with
  | none => exact sameSteps_error h (by decide)
  | some c => exact sameSteps_issueFrame h c (by simp [sampling]) (by decide)

theorem sameSteps_sample {op : Nat} {s s' : State} (h : SameInputs s s') (ch : Nat) :
    SameSteps op (exec (.sample ch) s) (exec (.sample ch) s') := by
  by_cases hch : ch ≤ 7
  · by_cases hscale : i32 s.scaleMax < 0
    · rw [exec_sample_of_neg hch hscale, exec_sample_of_neg hch (h.scaleMax ▸ hscale)]
      exact sameSteps_error h (by decide)
    · rw [not_lt] at hscale
      rw [exec_sample_of_nonneg hch hscale, exec_sample_of_nonneg hch (h.scaleMax ▸ hscale)]
      exact sameSteps_of_ne_idle h.startWindow (by simp [startWindow])
  · have hrow : Instr.sample ch ∈ [Instr.frame ch, .read ch, .sample ch] := by simp
    rw [exec_of_invalid_channel (not_le.mp hch) hrow, exec_of_invalid_channel (not_le.mp hch) hrow]
    exact sameSteps_error h (by decide)

theorem sameSteps_exec {s s' : State} (h : SameInputs s s') (hp : s.phase = .exec)
    (hop : opField s.cmd = 3 ∨ opField s.cmd = 8) : SameSteps (opField s.cmd) (blockTurn s) (blockTurn s') := by
  rw [blockTurn_of_exec hp, blockTurn_of_exec (h.phase.trans hp), h.cmd]
  obtain hread | hsample := hop
  · rw [decodeCmd_of_read hread]
    exact sameSteps_read h _
  · rw [decodeCmd_of_sample hsample]
    exact sameSteps_sample h _

/-! ## The response and the window check -/

/-- READ's completion reports the response (R106). -/
theorem sameSteps_readComplete {s s' : State} (h : SameInputs s s') (hp : s.phase = .readWait) (b0 b1 b2 : Byte) :
    SameSteps 3 (exec (.adcResult b0 b1 b2) s) (exec (.adcResult b0 b1 b2) s') := by
  rw [exec_adcResult_of_readWait hp, exec_adcResult_of_readWait (h.phase.trans hp)]
  exact sameSteps_next ((h.receive b0 b1 b2).complete .none) fun _ => ⟨rfl, rfl, rfl, fun _ _ => ⟨rfl, rfl⟩, nofun⟩

/-- SAMPLE's push reports nothing (R175). -/
theorem sameSteps_push {op : Nat} {s s' : State} (h : SameInputs s s') (hp : s.phase = .sampleWait) (b0 b1 b2 : Byte) :
    SameSteps op (exec (.adcResult b0 b1 b2) s) (exec (.adcResult b0 b1 b2) s') := by
  rw [exec_adcResult_of_sampleWait hp, exec_adcResult_of_sampleWait (h.phase.trans hp)]
  exact sameSteps_of_ne_idle (h.pushResponse (.inr hp) ⟨0, b0, b1, b2⟩) (by simp)

/-- A waiting block, whose phases differ only in what an OK response does. -/
theorem sameSteps_wait {op : Nat} {s s' : State} (h : SameInputs s s') (hp : waiting s.phase)
    (hok : ∀ b0 b1 b2, SameSteps op (exec (.adcResult b0 b1 b2) s) (exec (.adcResult b0 b1 b2) s')) :
    SameSteps op (blockTurn s) (blockTurn s') := by
  have hp' : waiting s'.phase := h.phase ▸ hp
  have hidle : s.phase ≠ .idle := by obtain hp | hp := hp <;> simp [hp]
  cases hbus : s.bus with
  | answered a =>
    cases a with
    | ok b0 b1 b2 =>
      rw [blockTurn_of_ok hp hbus, blockTurn_of_ok hp' (h.bus.trans hbus)]
      exact hok b0 b1 b2
    | fail =>
      rw [blockTurn_of_fail hp hbus, blockTurn_of_fail hp' (h.bus.trans hbus)]
      exact sameSteps_error h.consume (by decide)
  | quiet | issued b0 b1 b2 =>
    rw [blockTurn_of_not_answered hp (by simp [hbus]), blockTurn_of_not_answered hp' (by simp [h.bus, hbus])]
    exact sameSteps_of_ne_idle h hidle

/-- SAMPLE's finish reports of the tracker and SCALE_MAX alone (R177). -/
theorem sameReport_sampleFinish {s s' : State} (h : SameInputs s s') (hp : sampling s.phase) :
    SameReport 8 (sampleFinish s) (sampleFinish s') := by
  have htracker := h.tracker hp
  refine fun _ => ⟨rfl, rfl, rfl, nofun, fun _ _ => ?_⟩
  simp only [sampleFinish_p2p, sampleFinish_result, sampleFinish_tracker, sampleFinish_status, htracker, h.scaleMax,
    and_self]

theorem sameSteps_windowCheck {s s' : State} (h : SameInputs s s') (hp : s.phase = .sampleCheck) :
    SameSteps 8 (windowCheck s) (windowCheck s') := by
  have hsampling : sampling s.phase := .inl hp
  have hsame := h.windowOpen hsampling
  cases hwindow : windowOpen s with
  | true =>
    rw [windowCheck, windowCheck, if_pos hwindow, if_pos (hsame.trans hwindow), h.cmd]
    cases toChannel (chanField s.cmd) with
    | none =>
      intro t ht
      cases ht
    | some c => exact sameSteps_issueFrame h c (fun _ => hsampling) (by decide)
  | false =>
    rw [windowCheck_of_closed hwindow, windowCheck_of_closed (hsame.trans hwindow)]
    exact sameSteps_next h.sampleFinish (sameReport_sampleFinish h hsampling)

/-- The block's step of a running READ or SAMPLE. -/
theorem sameSteps_block {s s' : State} (h : SameInputs s s') (hop : opField s.cmd = 3 ∨ opField s.cmd = 8)
    (hphase : s.phase = .readWait ∧ opField s.cmd = 3 ∨ sampling s.phase ∧ opField s.cmd = 8 ∨ s.phase = .exec) :
    SameSteps (opField s.cmd) (blockTurn s) (blockTurn s') := by
  obtain ⟨hp, hread⟩ | ⟨hp | hp, hsample⟩ | hp := hphase
  · rw [hread]
    exact sameSteps_wait h (.inl hp) (sameSteps_readComplete h hp)
  · rw [hsample, blockTurn_of_sampleCheck hp, blockTurn_of_sampleCheck (h.phase.trans hp)]
    exact sameSteps_windowCheck h hp
  · exact sameSteps_wait h (.inr hp) (sameSteps_push h hp)
  · exact sameSteps_exec h hp hop

/-! ## The bus agent's step -/

/-- The bus agent's step reads the bus port and the bus agent's own queue (R108), and completes nothing. -/
theorem sameSteps_bus {op : Nat} {s s' : State} (h : SameInputs s s') (hp : s.phase ≠ .idle) :
    SameSteps op (busTurn s) (busTurn s') := by
  cases hpending : s.pending with
  | false =>
    rw [busTurn_of_not_pending hpending, busTurn_of_not_pending (h.pending.trans hpending)]
    exact sameSteps_of_ne_idle h hp
  | true =>
    cases hbus : s.bus with
    | quiet | answered a =>
      rw [busTurn_of_not_issued (by simp [hbus]), busTurn_of_not_issued (by simp [h.bus, hbus])]
      exact sameSteps_of_ne_idle h hp
    | issued b0 b1 b2 =>
      by_cases hframe : isChannelSelect b0 b1 b2 = true
      · obtain ⟨ch, rfl, rfl, rfl⟩ := (isChannelSelect_iff b0 b1 b2).mp hframe
        rw [busTurn_of_frame hpending hbus, busTurn_of_frame (h.pending.trans hpending) (h.bus.trans hbus)]
        exact sameSteps_of_ne_idle (h.withAnswer ch) hp
      · intro t ht
        rw [busTurn_of_issued hpending hbus, runWord, decode, if_neg hframe] at ht
        cases ht

/-- Settles O60: the two states give the turn to the same agent, and its step is the same on both. -/
theorem readAndSampleAreStateless : Obligations.ReadAndSampleAreStateless := by
  intro s s' t h hidle hop hphase hagent hstep
  have hnext : nextAgent s' = nextAgent s := by rw [nextAgent, nextAgent, h.env]
  have hsteps : SameSteps (opField s.cmd) (step s) (step s') := by
    obtain hblock | hbus | htime := hagent
    · rw [step_of_block hblock, step_of_block (hnext.trans hblock)]
      exact sameSteps_block h.afterTurn hop hphase
    · rw [step_of_bus hbus, step_of_bus (hnext.trans hbus)]
      exact sameSteps_bus h.afterTurn hidle
    · rw [step, step, hnext, htime]
      exact sameSteps_of_ne_idle h.afterTurn.timebaseTurn hidle
  exact hsteps t hstep

end Sys2Proof.Machine
